-- ==== Sys2Proof/Word.lean ====
section
/-! DEFINITION. The words of the FK-320 and the characters its line receiver reads. -/

namespace Sys2Proof

/-- A byte of a frame, of a panel transaction or of the configuration image. -/
abbrev Byte := BitVec 8

/-- A 16-bit quantity: a cycle number, a label, a digest, a counter. -/
abbrev Word16 := BitVec 16

/-- A 32-bit count of ticks of 10 ms, or of capture units of 0.1 ms, which wraps (R63, R151, R152). -/
abbrev Tick := BitVec 32

/-- A station number 0..31 (five strap pins, five header bits). -/
abbrev Station := Fin 32

/-- One character as the receive path reads it (R85, R86): its eight data bits, whether its stop bit
was read at the mark level, and the gap in microseconds since the character before it. -/
structure RxChar where
  value : Byte
  stopOk : Bool
  gap : Nat
  deriving DecidableEq, Repr

end Sys2Proof
end

