-- ==== Sys2Proof/Syntax.lean ====
section
/-! DEFINITION. The commands of the block: one constructor per row of spec/opcode_table.json. -/

namespace Sys2Proof

/-- A command: an indivisible step of the FK-320 (95_what_each_step_holds.md). The table gives no operands;
those below are the facts of the outside world that the row's rules read. `args` are the argument bytes of a
panel transaction (R193); `frame` the characters received (R86). -/
inductive Instr where
  /-- POWER_ON (R207). -/
  | powerOn
  /-- RESET_ASSERTED (R208). -/
  | resetAsserted
  /-- RESET_RELEASED (R208). -/
  | resetReleased
  /-- LOAD_ATTEMPT_END (R204): the levels of the strap pins from here on (R203), the bytes clocked in, and the vane code
  and dust ready level that the first sample period finds when the load succeeds (R65, R66). -/
  | loadAttemptEnd (straps : Station) (image : List Byte) (vane : BitVec 4) (dustReady : Bool)
  /-- LOAD_RETRY_DELAY_EXPIRY (R203): the levels of the strap pins, as the new attempt reads them. -/
  | loadRetryDelayExpiry (straps : Station)
  /-- PANEL_TRANSACTION_CUT (R193). -/
  | panelTransactionCut
  /-- PANEL_UNKNOWN_COMMAND (R194): the command code and the arguments. -/
  | panelUnknownCommand (code : Byte) (args : List Byte)
  /-- READ_STATUS (R196). -/
  | readStatus (args : List Byte)
  /-- CLEAR_STATUS (R200). -/
  | clearStatus (args : List Byte)
  /-- READ_FRONT (R18). -/
  | readFront (args : List Byte)
  /-- READ_ROSTER (R126). -/
  | readRoster (args : List Byte)
  /-- READ_ZONE (R182). -/
  | readZone (args : List Byte)
  /-- ACKNOWLEDGE_ZONE (R172). -/
  | acknowledgeZone (args : List Byte)
  /-- READ_EXCEPTION (R59). -/
  | readException (args : List Byte)
  /-- CLEAR_EXCEPTION (R60). -/
  | clearException (args : List Byte)
  /-- READ_TRACE (R190). -/
  | readTrace (args : List Byte)
  /-- ARM_TRACE (R189). -/
  | armTrace (args : List Byte)
  /-- READ_COUNTERS (R191). -/
  | readCounters (args : List Byte)
  /-- CLEAR_COUNTERS (R192). -/
  | clearCounters (args : List Byte)
  /-- READ_CONFIG (R197). -/
  | readConfig (args : List Byte)
  /-- RESTART (R199). -/
  | restart (args : List Byte)
  /-- WARM_RESTART (R199): SEL release after a taken RESTART, with the vane code and dust ready level that the first
  sample period finds (R65, R66). -/
  | warmRestart (vane : BitVec 4) (dustReady : Bool)
  /-- ANEMOMETER_EDGE (R63): the capture units of 0.1 ms since the last local tick. -/
  | anemometerEdge (offset : Nat)
  /-- VANE_CODE_CHANGE (R65): the new code, G3 the most significant bit. -/
  | vaneCodeChange (code : BitVec 4)
  /-- DUST_PULSE (R66). -/
  | dustPulse
  /-- DUST_READY_LOW (R66). -/
  | dustReadyLow
  /-- SAMPLE_PERIOD_END (R62): the dust ready level at the beginning of the next period (R66, log 16). -/
  | samplePeriodEnd (dustReady : Bool)
  /-- REFRACTORY_EXPIRY (R75). -/
  | refractoryExpiry
  /-- LISTEN_TIMER_EXPIRY (R94). -/
  | listenTimerExpiry
  /-- OPEN_TIMER_EXPIRY (R99). -/
  | openTimerExpiry
  /-- RECEIVER_QUIET_WAIT_END (R86). -/
  | receiverQuietWaitEnd
  /-- SILENCE_TIMEOUT (R97). -/
  | silenceTimeout
  /-- PLAN_FIX (R101). -/
  | planFix
  /-- NEXT_FRAME_START (R103). -/
  | nextFrameStart
  /-- FRAME_REPEAT (R104). -/
  | frameRepeat
  /-- MARK_RECEIVED (R95). -/
  | markReceived (frame : List RxChar)
  /-- PRESENCE_RECEIVED (R117). -/
  | presenceReceived (frame : List RxChar)
  /-- SIGHTING_RECEIVED (R21). -/
  | sightingReceived (frame : List RxChar)
  /-- TRANSFER_RECEIVED (R141). -/
  | transferReceived (frame : List RxChar)
  /-- FRAME_REJECTED (R90). -/
  | frameRejected (frame : List RxChar)
  /-- ECHO_FAIL (R104). -/
  | echoFail
  /-- MARK_COLLISION (R100). -/
  | markCollision
  /-- MARK_SENT (R99). -/
  | markSent
  /-- FRAME_SENT (R104). -/
  | frameSent
  /-- SIGHTING_STEP_END (R26). -/
  | sightingStepEnd
  /-- CLOSING_STEP_END (R37). -/
  | closingStepEnd
  /-- PER_SECOND_EVALUATION (R166). -/
  | perSecondEvaluation
  /-- HOLD_EXPIRY (R171): the channel whose hold timer expires. -/
  | holdExpiry (channel : Fin 4)
  /-- PATTERN_PERIOD_END (R176): the channel whose pattern period ends. -/
  | patternPeriodEnd (channel : Fin 4)
  /-- CALIBRATION_WINDOW_END (R162): the rising edges of the lull clock counted in the window. -/
  | calibrationWindowEnd (count : Nat)
  /-- WAKE_TIMER_EXPIRY (R160). -/
  | wakeTimerExpiry
  /-- LOCAL_TICK (R151). -/
  | localTick
  /-- FRAME_START (R86). -/
  | frameStart
  deriving DecidableEq, Repr

end Sys2Proof
end

