-- ==== Sys2Proof/Decode.lean ====
section
/-! DEFINITION. The opcode table gives no row any bits: a command is an event, not a word. The bytes of a panel
transaction spell one (R193, R195). -/

namespace Sys2Proof

/-- The command that a word of `nbits` bits spells by the table's bits. No row gives bits, so no word spells
a command. -/
def decodeTableWord (_nbits _w : Nat) : Option Instr := none

/-- The panel command of a code (R195); any other code is unknown (R194). -/
def panelCommand (code : Byte) (args : List Byte) : Instr :=
  match code.toNat with
  | 0x10 => .readStatus args
  | 0x11 => .clearStatus args
  | 0x20 => .readFront args
  | 0x21 => .readRoster args
  | 0x22 => .readZone args
  | 0x23 => .acknowledgeZone args
  | 0x30 => .readException args
  | 0x31 => .clearException args
  | 0x40 => .readTrace args
  | 0x41 => .armTrace args
  | 0x50 => .readCounters args
  | 0x51 => .clearCounters args
  | 0x60 => .readConfig args
  | 0x7E => .restart args
  | _ => .panelUnknownCommand code args

/-- The command that the bytes of a transaction spell (R193): code, argument count, arguments. It is taken at its last
argument byte, and bytes after that are read by nobody; fewer bytes make a cut transaction. -/
def panelTransaction : List Byte → Instr
  | code :: count :: rest =>
    if count.toNat ≤ rest.length then panelCommand code (rest.take count.toNat) else .panelTransactionCut
  | _ => .panelTransactionCut

end Sys2Proof
end

