-- ==== Sys2Proof/Config.lean ====
section
/-! DEFINITION. The free values: what the book leaves open and the model therefore does not choose.
Each is an uninterpreted constant applied to `State.freeCount`. -/

namespace Sys2Proof

/-- FREE VALUE (log 10). R174: the Roster's close and the Agreement Unit's check of one MARK reach the
Warning Unit separately, and either may be taken first. True: the close is taken first. -/
opaque Config.closeFirst : Nat → Bool

/-- FREE VALUE (log 8). R155: the ms between the last tick and the start of the open timer that LULL entry
converts. `Machine.elapsedMs` keeps it below the ms of one tick. -/
opaque Config.startPhase : Nat → Nat

/-- FREE VALUE (log 8). R158: the capture units of 0.1 ms that have run since the last tick when the capture clock
passes to the lull clock. `Machine.State.capturePhase` keeps it below the units of one tick. -/
opaque Config.capturePhase : Nat → Nat

/-- FREE VALUE (log 9). R155: the lull periods that have passed since the last tick when a panel command
wakes the station. `Machine.wakeExtra` keeps it below the periods of one tick. -/
opaque Config.elapsedPeriods : Nat → Nat

end Sys2Proof
end

