-- ==== Sys2Proof/Machine/State.lean ====
section
/-! DEFINITION. The state of the FK-320: every piece of state the book gives each of its thirteen blocks, as plain
data, and the machine right after a cold restart (R207). -/

namespace Sys2Proof.Machine

/-! ## Configuration -/

/-- The station state of READ STATUS (R196): the Configuration Loader's two states and the line states (R92). -/
inductive Mode where
  | loading | configFault | listening | active | resync | mute | lull
  deriving DecidableEq, Repr

/-- Where a load stands (R203): waiting for the end of a cold restart, an attempt running, the 10 ms delay after a
failed attempt, or no load under way. -/
inductive LoadPhase where
  | waiting | attempt | retryDelay | settled
  deriving DecidableEq, Repr

/-- The reason of a failed load attempt (R204). -/
inductive LoadReason where
  | none | crc | header | range | strap | table
  deriving DecidableEq, Repr

/-- A yard zone: centre and radius in metres (R202). -/
structure YardZone where
  cx : Nat
  cy : Nat
  radius : Nat
  deriving DecidableEq, Repr

/-- Arrival rounding (R52). -/
inductive Rounding where
  | early | nearest
  deriving DecidableEq, Repr

/-- The yard profile in force (R202, bytes 3 to 230). Times that the book uses in ticks are held in ticks
(names ending in `T`), the gaps and the guard in ms. -/
structure Profile where
  stations : Nat
  positions : List (Nat × Nat)
  zones : List YardZone
  samplePeriodT : Nat
  airPerPulse : Nat
  gustMargin : Nat
  onsetClass : Nat
  sustain : Nat
  dust1 : Nat
  dust2 : Nat
  dust3 : Nat
  refractoryT : Nat
  quietGapMs : Nat
  alertGapMs : Nat
  staggerMs : Nat
  silenceMs : Nat
  burstLimit : Nat
  stepTolerance : Nat
  lullAllowed : Bool
  guardMs : Nat
  assocRadius : Nat
  pairingT : Nat
  nominalSpeed : Nat
  speedFloor : Nat
  speedCeiling : Nat
  horizonT : Nat
  rounding : Rounding
  decayT : Nat
  releaseT : Nat
  alarmLeadT : Nat
  warnLeadT : Nat
  watchDistance : Nat
  strongGust : Nat
  holdT : Nat
  deriving DecidableEq, Repr

/-- The profile read while none is in force (log 27): every number 0, every list empty. -/
def Profile.absent : Profile where
  stations := 0
  positions := []
  zones := []
  samplePeriodT := 0
  airPerPulse := 0
  gustMargin := 0
  onsetClass := 0
  sustain := 0
  dust1 := 0
  dust2 := 0
  dust3 := 0
  refractoryT := 0
  quietGapMs := 0
  alertGapMs := 0
  staggerMs := 0
  silenceMs := 0
  burstLimit := 0
  stepTolerance := 0
  lullAllowed := false
  guardMs := 0
  assocRadius := 0
  pairingT := 0
  nominalSpeed := 0
  speedFloor := 0
  speedCeiling := 0
  horizonT := 0
  rounding := .early
  decayT := 0
  releaseT := 0
  alarmLeadT := 0
  warnLeadT := 0
  watchDistance := 0
  strongGust := 0
  holdT := 0

/-- A station table entry (R202): the role is EDGE or FIELD, the lamp polarity ON-LOW or ON-HIGH. -/
structure StationEntry where
  edge : Bool
  onLow : Bool
  zoneMask : Byte
  deriving DecidableEq, Repr

/-- The trace settings that an image and an ARM TRACE carry (R189, R202). Bit b of a set names the kind of
bit number b (R195). -/
inductive TraceMode where
  | off | all | matching
  deriving DecidableEq, Repr

structure TraceSettings where
  mode : TraceMode
  kindSet : Word16
  srcValue : BitVec 5
  srcMask : BitVec 5
  freezeSet : Word16
  deriving DecidableEq, Repr

/-- The trace settings of LOADING and CONFIG FAULT (R188). -/
def TraceSettings.off : TraceSettings := ⟨.off, 0, 0, 0, 0⟩

/-- A configuration in force (R205). `enables` is byte 231 of the image, `masks` bits 2..8 of its attention masks. -/
structure Loaded where
  image : List Byte
  number : Station
  profile : Profile
  profileDigest : Word16
  entry : StationEntry
  enables : Byte
  masks : Word16
  trace : TraceSettings
  deriving DecidableEq, Repr

/-- The Configuration Loader. `strap` is the station number of READ STATUS, none for FFh. -/
structure Loader where
  phase : LoadPhase
  attempts : Nat
  reason : LoadReason
  strap : Option Station
  loaded : Option Loaded
  deriving DecidableEq, Repr

/-! ## Front Table and Sighting Queue -/

inductive FrontState where
  | free | forming | tracked | decaying
  deriving DecidableEq, Repr

/-- A track list entry (R3); `none` in a measurement is UNSET. -/
structure Entry where
  station : Station
  sid : Byte
  onset : Tick
  peak : Option Nat
  sector : Option (Fin 16)
  dust : Option (Fin 4)
  subsided : Bool
  deriving DecidableEq, Repr

/-- An item of an arrival list (R2). -/
inductive Arrival where
  | time (t : Tick)
  | beyond
  | receding
  | none
  deriving DecidableEq, Repr

/-- A front record (R2). -/
structure Front where
  state : FrontState
  id : Byte
  stalled : Bool
  valid : Bool
  vx : Int
  vy : Int
  track : List Entry
  dustI : Option (Fin 4)
  peakI : Option Nat
  arrivals : List Arrival
  deriving DecidableEq, Repr

/-- The empty record (R2), for a yard of `zoneCount` zones. -/
def Front.empty (zoneCount : Nat) : Front where
  state := .free
  id := 0
  stalled := false
  valid := false
  vx := 0
  vy := 0
  track := []
  dustI := none
  peakI := none
  arrivals := List.replicate zoneCount .none

/-- The Front Table (R1); slot i is `slots[i]`. -/
structure FrontTable where
  slots : List Front
  nextId : Byte
  fusedThrough : Option Word16
  deriving DecidableEq, Repr

/-- The empty table of R19. -/
def FrontTable.empty (zoneCount : Nat) : FrontTable where
  slots := List.replicate 8 (Front.empty zoneCount)
  nextId := 1
  fusedThrough := none

inductive SightingKind where
  | onset | subside
  deriving DecidableEq, Repr

/-- A sighting as its frame carries it (R20, R72, R74); `onsetRef` is present in a SUBSIDE. -/
structure Sighting where
  kind : SightingKind
  source : Station
  sid : Byte
  onsetRef : Option Byte
  time : Tick
  peak : Option Nat
  sector : Option (Fin 16)
  dust : Option (Fin 4)
  cut : Bool
  deriving DecidableEq, Repr

/-- The OPEN label (R20); its now is not yet set. -/
structure OpenLabel where
  number : Word16
  sightings : List Sighting
  deriving DecidableEq, Repr

/-- A closed label, WAITING or FUSING (R20). -/
structure Label where
  number : Word16
  now : Tick
  sightings : List Sighting
  deriving DecidableEq, Repr

/-- The Sighting Queue. `stopping`: an overrun has stopped the fusion, which ends with the sighting step under way
(R40). -/
structure Fusion where
  openLabel : Option OpenLabel
  waiting : Option Label
  fusing : Option Label
  stopping : Bool
  deriving DecidableEq, Repr

def Fusion.empty : Fusion := ⟨none, none, none, false⟩

/-! ## Estimator -/

/-- The exception codes 1..5 (R54). -/
inductive ExcCode where
  | unsetOperand | zeroInterval | speedCeiling | speedFloor | horizon
  deriving DecidableEq, Repr

/-- The exception record (R59). -/
structure ExcRecord where
  pending : Bool
  lastCode : Option ExcCode
  frontId : Option Byte
  slot : Option Nat
  sighting : Option (Station × Byte)
  label : Option Word16
  raw : BitVec 32
  count : Byte
  deriving DecidableEq, Repr

def ExcRecord.empty : ExcRecord := ⟨false, none, none, none, none, none, 0, 0⟩

/-- The context of a report (R55). -/
structure ExcContext where
  frontId : Byte
  slot : Nat
  sighting : Option (Station × Byte)
  label : Word16
  deriving DecidableEq, Repr

/-- One report (R54): code, raw value. -/
structure ExcReport where
  code : ExcCode
  raw : Int
  deriving DecidableEq, Repr

/-! ## Sensing -/

/-- A Sample (R62). -/
structure Sample where
  stamp : Tick
  speed : Option Nat
  sector : Option (Fin 16)
  dustCount : Option Nat
  dust : Option (Fin 4)
  deriving DecidableEq, Repr

/-- An empty Sample (R67). R67 gives UNSET for its speed, sector and dust class; that its dust count is UNSET with the
dust class, and its stamp 0, which nothing reads, is the model's own (log 29). -/
def Sample.empty : Sample := ⟨0, none, none, none, none⟩

/-- The Sensor Front End (R62 to R66). `periodLeft` is none while no period runs. -/
structure Sensor where
  edges : Nat
  chatter : Nat
  firstEdge : Option Tick
  lastEdge : Option Tick
  lastAccepted : Option Tick
  lastPeriod : Option Nat
  vane : BitVec 4
  faulted : Bool
  dustCount : Word16
  notReady : Bool
  dustReady : Bool
  periodLeft : Option Nat
  speed : Option Nat
  sector : Option (Fin 16)
  deriving DecidableEq, Repr

/-- The Sensor Front End after restart (R83); the vane code and the ready level, which the first period reads from the
lines, are the model's choice here (log 29). -/
def Sensor.restarted : Sensor :=
  ⟨0, 0, none, none, none, none, 0, false, 0, false, true, none, none, none⟩

inductive DetectorState where
  | calm
  | rising (k : Nat)
  | gusting
  | easing (k : Nat)
  | refractory
  | blind
  deriving DecidableEq, Repr

/-- The sustain run (R71). -/
structure SustainRun where
  firstStamp : Tick
  peak : Nat
  dust : Option (Fin 4)
  sector : Option (Fin 16)
  deriving DecidableEq, Repr

/-- The gust record (R72). -/
structure GustRecord where
  onsetId : Byte
  sector : Option (Fin 16)
  time : Tick
  peak : Nat
  dust : Option (Fin 4)
  deriving DecidableEq, Repr

/-- The Onset Detector (R67 to R77, R81). `window` holds position 0 (oldest) first. `condBlind`, `condDust` and
`condVane` are the SENSOR_FAULT conditions as last examined. -/
structure Detector where
  window : List Sample
  priming : Nat
  state : DetectorState
  run : Option SustainRun
  gust : Option GustRecord
  baselineAtOnset : Option Nat
  firstEasing : Option Tick
  refractoryLeft : Option Nat
  nextSid : Byte
  sensorFault : Bool
  condBlind : Bool
  condDust : Bool
  condVane : Bool
  dustRun : Nat
  vaneRun : Nat
  localOverride : Bool
  deriving DecidableEq, Repr

/-- The Onset Detector after restart (R83); with the SENSOR_FAULT flag clear, none of its conditions holds (R77). -/
def Detector.restarted : Detector where
  window := List.replicate 16 Sample.empty
  priming := 0
  state := .calm
  run := none
  gust := none
  baselineAtOnset := none
  firstEasing := none
  refractoryLeft := none
  nextSid := 0
  sensorFault := false
  condBlind := false
  condDust := false
  condVane := false
  dustRun := 0
  vaneRun := 0
  localOverride := false

/-! ## Roster -/

inductive AgreeState where
  | joining | agreed | diverged
  deriving DecidableEq, Repr

inductive Level where
  | clear | watch | warn | alarm
  deriving DecidableEq, Repr

/-- The contents of a PRESENCE (R102) and the record kept of it (R117). A channel byte is none for "no zone". -/
structure Presence where
  cycle : Word16
  fused : Option Word16
  digest : Option Word16
  profileDigest : Word16
  alert : Bool
  needTable : Bool
  sensorFault : Bool
  agree : AgreeState
  wind : Option Nat
  sector : Option (Fin 16)
  channels : List (Option (Fin 8 × Level))
  deriving DecidableEq, Repr

inductive RosterState where
  | unknown | present | silent | absent
  deriving DecidableEq, Repr

inductive ProfileMatch where
  | unknown | same | mismatch
  deriving DecidableEq, Repr

/-- A roster entry (R115). -/
structure RosterEntry where
  state : RosterState
  unheard : Byte
  heard : Bool
  last : Option Presence
  takenIn : Option Word16
  profile : ProfileMatch
  deriving DecidableEq, Repr

/-- A roster entry after restart (R127). -/
def RosterEntry.restarted : RosterEntry := ⟨.unknown, 0, false, none, none, .unknown⟩

/-- The Roster; entry i is `entries[i]`. -/
structure Roster where
  entries : List RosterEntry
  cycleOpen : Bool
  quietRun : Nat
  lineLost : Bool
  deriving DecidableEq, Repr

def Roster.restarted (n : Nat) : Roster := ⟨List.replicate n RosterEntry.restarted, false, 0, false⟩

/-! ## Frames -/

inductive Cadence where
  | quiet | alert
  deriving DecidableEq, Repr

inductive FrameKind where
  | mark | presence | sighting | transfer
  deriving DecidableEq, Repr

/-- A MARK's payload (R88); the station count is N. -/
structure MarkBody where
  cycle : Word16
  time : Tick
  cadence : Cadence
  deriving DecidableEq, Repr

/-- A TRANSFER's payload (R89): the snapshot header and, unless the slot is none, a slot and its front record. -/
structure TransferBody where
  label : Word16
  digest : Word16
  nextId : Byte
  count : Nat
  slot : Option (Fin 8 × Front)
  deriving DecidableEq, Repr

/-- The contents of a frame. -/
inductive Body where
  | mark (m : MarkBody)
  | presence (p : Presence)
  | sighting (g : Sighting)
  | transfer (t : TransferBody)
  deriving DecidableEq, Repr

def Body.kind : Body → FrameKind
  | .mark _ => .mark
  | .presence _ => .presence
  | .sighting _ => .sighting
  | .transfer _ => .transfer

/-- The reason a receive check fails (R90), in its order. -/
inductive RejectReason where
  | check | length | source | own | field
  deriving DecidableEq, Repr

/-- A frame as collected from its characters (R86): cut, with its header byte if that was read, or whole. -/
inductive RxFrame where
  | cut (header : Option Byte)
  | whole (header : Byte) (length : Byte) (payload : List Byte) (crc : Word16)
  deriving DecidableEq, Repr

/-- What the receive checks make of a frame (R90). -/
inductive Verdict where
  | rejected (reason : RejectReason) (isCut : Bool) (header : Option Byte)
  | taken (source : Station) (final : Bool) (body : Body)
  deriving DecidableEq, Repr

/-! ## Line Controller -/

inductive MuteReason where
  | duplicate | markContention
  deriving DecidableEq, Repr

/-- The opportunity counter (R96). -/
inductive Opp where
  | none
  | number (k : Nat)
  | ended
  deriving DecidableEq, Repr

/-- The open timer (R98, R99, R155, R161). `ms`: its delay and the local ticks since it started. `lull`: the lull
periods that remain. `busy`: it expired on a busy line and waits for the frame under way. `held`: it expired in the
receiver's quiet wait. -/
inductive OpenTimer where
  | stopped
  | ms (delay : Nat) (ticks : Nat)
  | lull (periods : Nat)
  | busy
  | held
  deriving DecidableEq, Repr

/-- The receive path (R86): off; waiting for 400 µs of quiet, a frame having been skipped or not; on an idle line;
collecting a frame; or collecting the frame that follows a mismatch of an own MARK or an own other frame (R100,
R104). -/
inductive Rx where
  | off
  | quietWait (skipped : Bool)
  | idle
  | busy
  | collecting (ownMark : Bool)
  deriving DecidableEq, Repr

/-- An own frame on the line. -/
structure TxFrame where
  body : Body
  final : Bool
  deriving DecidableEq, Repr

/-- A frame of the plan (R101). A PRESENCE and a SIGHTING are composed when their first attempt begins. -/
inductive PlanItem where
  | presence
  | sighting
  | transfer (t : TransferBody)
  deriving DecidableEq, Repr

/-- What a plan waits for (R103, R104): the end of the frame on the line, the delay before the next frame, or the
delay before the repeat of a failed attempt. -/
inductive PlanWait where
  | frameEnd | nextStart | repeatStart
  deriving DecidableEq, Repr

/-- A plan (R101): the frames not yet sent or dropped, the current one first; the bytes of the current one, once
composed, as its contents; its failed attempts; what is awaited; and the TRANSFER frames the plan was fixed with. -/
structure Plan where
  items : List PlanItem
  current : Option Body
  attempts : Nat
  wait : PlanWait
  transfers : Nat
  deriving DecidableEq, Repr

/-- The Line Controller. `zeroCadence`: the preference formed when the listen time expired, for the cycle 0 MARK that
the timer then started leads to (R154, log 22). -/
structure Line where
  muteReason : Option MuteReason
  cycle : Word16
  cadence : Cadence
  opp : Opp
  used : Bool
  oppFrames : Bool
  wakePending : Bool
  silence : Bool
  openTimer : OpenTimer
  openFresh : Bool
  listenLeft : Option Nat
  zeroCadence : Option Cadence
  collisions : Nat
  rx : Rx
  tx : Option TxFrame
  plan : Option Plan
  deriving DecidableEq, Repr

/-- The Line Controller after restart, before it enters LISTENING (R112, R113). The marks `oppFrames` and `openFresh` and
the preference `zeroCadence` are not in R113's table; clear and none are the model's choice (log 29). -/
def Line.restarted : Line where
  muteReason := none
  cycle := 0
  cadence := .quiet
  opp := .none
  used := false
  oppFrames := false
  wakePending := false
  silence := false
  openTimer := .stopped
  openFresh := false
  listenLeft := none
  zeroCadence := none
  collisions := 0
  rx := .off
  tx := none
  plan := none

/-! ## Agreement Unit -/

inductive DiscardReason where
  | mismatch | repeated | incomplete | idClash | digest | stale
  deriving DecidableEq, Repr

/-- The staging record (R142). -/
structure Staging where
  active : Bool
  source : Station
  label : Word16
  digest : Word16
  nextId : Byte
  expected : Nat
  received : List (Fin 8)
  noneReceived : Bool
  residue : Nat
  staged : List (Fin 8 × Front)
  held : Bool
  discarded : Bool
  deriving DecidableEq, Repr

/-- The staging record with nothing staged, after restart and after every discard, install and clear (R143, R146, R150).
R150 gives active, held and discarded clear and no staged slots. It gives no value for the source, label, digest, next
id, expected count, residue and received set of a record that is not active: 0 and empty there are the model's choice,
and no rule reads them (log 29). -/
def Staging.empty : Staging := ⟨false, 0, 0, 0, 0, 0, [], false, 0, [], false, false⟩

/-- The Agreement Unit; the history holds its oldest pair first. -/
structure Agree where
  state : AgreeState
  history : List (Word16 × Word16)
  group : List Station
  runCount : Byte
  installed : Bool
  staging : Staging
  deriving DecidableEq, Repr

def Agree.restarted : Agree := ⟨.joining, [], [], 0, false, Staging.empty⟩

/-! ## Timebase -/

/-- The wake timer (R159): its count, the units of 64 lull periods counted, and the periods of the next unit. -/
structure WakeTimer where
  target : Nat
  units : Nat
  sub : Nat
  deriving DecidableEq, Repr

/-- The Timebase. -/
structure Timebase where
  localTick : Tick
  yardClock : Tick
  firstAdoption : Bool
  rate : Nat
  lullGood : Bool
  calibLeft : Option Nat
  wake : Option WakeTimer
  acc : Nat
  capAcc : Nat
  capture : Tick
  deriving DecidableEq, Repr

/-- The Timebase after a cold restart (R164); the capture clock and its accumulator are 0 by the model's choice (logs 15,
29). -/
def Timebase.cold : Timebase := ⟨0, 0, true, 16384, false, none, none, 0, 0, 0⟩

/-! ## Warning Unit -/

/-- The driving source of a zone (R165). -/
inductive Source where
  | none
  | front (slot : Nat) (id : Byte)
  | ownGust
  deriving DecidableEq, Repr

/-- A zone record (R165). -/
structure Zone where
  zone : Fin 8
  level : Level
  source : Source
  hold : Option Nat
  ack : Bool
  degraded : Bool
  deriving DecidableEq, Repr

/-- A lamp pattern (R175). -/
inductive Pattern where
  | off | watch | warn | alarm | fault
  deriving DecidableEq, Repr

/-- A pattern generator (R176) and the pattern last handed to it (R175). -/
structure Gen where
  running : Bool
  counter : Nat
  shown : Pattern
  preload : Pattern
  handed : Pattern
  deriving DecidableEq, Repr

/-- A stopped generator. R183 gives "stopped, preload OFF"; the period counter 0, the active copy OFF and the pattern last
handed OFF are the model's choice (log 29). A stopped generator's counter and active copy show nowhere. -/
def Gen.stopped : Gen := ⟨false, 0, .off, .off, .off⟩

/-- The Warning Unit; channel k is `zones[k]` and `gens[k]`. -/
structure Warn where
  zones : List Zone
  gens : List Gen
  lineLost : Bool
  runCount : Byte
  agree : AgreeState
  pendingAgreed : Bool
  secondDue : Bool
  deriving DecidableEq, Repr

/-- The Warning Unit after restart (R183), with the mark of an evaluation due, the model's own (log 7), clear. -/
def Warn.restarted (zones : List Zone) : Warn :=
  ⟨zones, List.replicate 4 Gen.stopped, false, 0, .joining, false, false⟩

/-! ## Line Trace, counters, Panel Port -/

/-- The fifteen event kinds (R185), in their order. -/
inductive TraceKind where
  | frameIn | frameOut | checkFail | echoFail | markCollision | markOpened | slotDisagree | burstCut | duplicate
  | resync | transferSent | transferInstalled | transferDiscarded | diverged | restart
  deriving DecidableEq, Repr

/-- The detail of a trace entry (R185). -/
inductive Detail where
  | none
  | sid (id : Byte)
  | count (n : Nat)
  | reject (r : RejectReason)
  | opp (o : Opp)
  | discard (r : DiscardReason)
  deriving DecidableEq, Repr

/-- A trace entry (R185). -/
structure TraceEntry where
  tick : Tick
  cycle : Word16
  opp : Opp
  kind : TraceKind
  source : Option Station
  frame : Option FrameKind
  detail : Detail
  deriving DecidableEq, Repr

/-- The Line Trace (R184, R186); the ring holds its oldest entry first. -/
structure Trace where
  ring : List TraceEntry
  frozen : Bool
  reason : Option TraceKind
  settings : TraceSettings
  deriving DecidableEq, Repr

def Trace.cold : Trace := ⟨[], false, none, TraceSettings.off⟩

/-- The counters of R191, in its groups and order. -/
structure Counters where
  framesTaken : Word16
  checkRejections : Word16
  lengthRejections : Word16
  sourceRejections : Word16
  ownRejections : Word16
  fieldRejections : Word16
  echoFailures : Word16
  framesDropped : Word16
  markCollisions : Word16
  marksOpened : Word16
  slotDisagreements : Word16
  burstCuts : Word16
  sightingsRefused : Word16
  unplaced : Word16
  subsideUnmatched : Word16
  fusionOverruns : Word16
  transfersSent : Word16
  transfersInstalled : Word16
  transfersDiscarded : Word16
  transfersIgnored : Word16
  anemometerChatter : Word16
  vaneFaults : Word16
  outboundRefused : Word16
  clockSteps : Word16
  missedMarks : Word16
  calibrationRejects : Word16
  panelCut : Word16
  disabledUnset : Word16
  disabledZero : Word16
  disabledCeiling : Word16
  disabledFloor : Word16
  disabledHorizon : Word16
  deriving DecidableEq, Repr

def Counters.zero : Counters :=
  ⟨0, 0, 0, 0, 0, 0, 0, 0, 0, 0, 0, 0, 0, 0, 0, 0, 0, 0, 0, 0, 0, 0, 0, 0, 0, 0, 0, 0, 0, 0, 0, 0⟩

/-- The status events of R200, in bit order. -/
inductive StatusEvent where
  | restarted | configFault | exception | diverged | lineLost | zoneRaised | sensorFault | traceFrozen | muted
  deriving DecidableEq, Repr

/-- The Panel Port: the set of pending events in the bit order of R200, the number of incoming bytes of the transaction
whose command was taken last and the response captured then (R193: result byte, then data), and whether a served RESTART
awaits the release of SEL (R199). `incoming` is none while no command has been taken (log 44). -/
structure Panel where
  events : Word16
  incoming : Option Nat
  response : List Byte
  restartTaken : Bool
  deriving DecidableEq, Repr

/-! ## The whole machine -/

/-- The state of the FK-320. `resetHeld` and `straps` are the levels of its RESET and strap pins (R203, R208). `pending` is
the queue of waiting commands, `freeCount` the number of free values drawn; both are the model's own (logs 1, 33). -/
@[ext]
structure State where
  mode : Mode
  resetHeld : Bool
  straps : Station
  loader : Loader
  table : FrontTable
  fusion : Fusion
  exc : ExcRecord
  sensor : Sensor
  detector : Detector
  outbound : List Sighting
  line : Line
  roster : Roster
  agree : Agree
  time : Timebase
  warn : Warn
  trace : Trace
  counters : Counters
  panel : Panel
  freeCount : Nat
  pending : List Instr
  deriving DecidableEq, Repr

/-- Why the machine stops with a fault: never. The book gives the device no state in which it stops; its errors are
states, counters, events and exceptions, all of them effects. Nobody raises a fault, which is safe. -/
inductive Fault where
  deriving DecidableEq, Repr

/-- Why a command has no meaning. -/
inductive Refusal where
  /-- Raised by an arm of `exec` whose command has no meaning yet, and by no meaning. Safe: the model stops where
  the hardware goes on. -/
  | notModelled (mnemonic : String)
  deriving DecidableEq, Repr

/-- The loader in a cold restart (R207); its load begins when the restart ends (log 4). -/
def Loader.cold : Loader := ⟨.waiting, 0, .none, none, none⟩

/-- The Panel Port after a cold restart (R207): RESTARTED alone pending, no transaction in progress. -/
def Panel.cold : Panel := ⟨1, none, [], false⟩

/-- The machine right after a cold restart (R207): every block at its cold values and the Configuration Loader in
LOADING, no attempt of its load started (log 4). No profile is in force, so the Front Table has no arrival items, the
Roster no entries and the Warning Unit no zone records (log 27). The levels of the strap pins are the board's; 0 here is
the model's choice (log 48). -/
def State.reset : State where
  mode := .loading
  resetHeld := false
  straps := 0
  loader := Loader.cold
  table := FrontTable.empty 0
  fusion := Fusion.empty
  exc := ExcRecord.empty
  sensor := Sensor.restarted
  detector := Detector.restarted
  outbound := []
  line := Line.restarted
  roster := Roster.restarted 0
  agree := Agree.restarted
  time := Timebase.cold
  warn := Warn.restarted []
  trace := Trace.cold
  counters := Counters.zero
  panel := Panel.cold
  freeCount := 0
  pending := []

end Sys2Proof.Machine
end

