-- ==== Sys2Proof/Machine/Ops.lean ====
section
/-! DEFINITION. The named operations over the state that every block shares: counts that stop, modular times, the
configuration in force, status events, trace offers, estimator reports, and the two restarts' common part. -/

namespace Sys2Proof.Machine

/-! ## Numbers -/

/-- A 16-bit counter stops at its maximum (R191). -/
def satInc (c : Word16) : Word16 := if c = 0xFFFF then c else c + 1

/-- An 8-bit count stops at 255 (R57, R115, R134). -/
def satIncByte (c : Byte) : Byte := if c = 0xFF then c else c + 1

/-- The signed modular difference `a − b` of two 32-bit times (00_scope.md, Conventions, "Time differences"). Conventions
does not say which sign a difference of exactly 2^31 ticks has; that it is read as −2^31 is the model's choice (log 51). -/
def tickDiff (a b : Tick) : Int := (a - b).toInt

/-- `a − b` of two capture times as an unsigned modular difference (R63, log 15). -/
def captureDiff (a b : Tick) : Nat := (a - b).toNat

/-- One tick less on a running timer; a timer at 0 waits there for its expiry (log 7). -/
def countDown (t : Option Nat) : Option Nat := t.map (· - 1)

/-! ## Modes and the configuration in force -/

/-- The states from LISTENING onward (R62, R165). -/
def Mode.runs : Mode → Bool
  | .listening | .active | .resync | .mute | .lull => true
  | .loading | .configFault => false

/-- The states in which the main oscillator runs and the receiver is on (R90, R162). -/
def Mode.awake : Mode → Bool
  | .listening | .active | .resync | .mute => true
  | .loading | .configFault | .lull => false

/-- The blocks run: RESET is not held (R208, log 31) and the station is in LISTENING or beyond. -/
def State.runs (s : State) : Bool := !s.resetHeld && s.mode.runs

/-- The station runs and is not in LULL. -/
def State.awake (s : State) : Bool := !s.resetHeld && s.mode.awake

/-- The yard profile in force (R205); `Profile.absent` while there is none (log 27). -/
def State.profile (s : State) : Profile :=
  match s.loader.loaded with
  | some c => c.profile
  | none => Profile.absent

/-- The own number in force (R205); 0 while there is none (log 27). -/
def State.own (s : State) : Station :=
  match s.loader.loaded with
  | some c => c.number
  | none => 0

/-- The station's own profile digest (R205); 0 while there is none (log 27). -/
def State.profileDigest (s : State) : Word16 :=
  match s.loader.loaded with
  | some c => c.profileDigest
  | none => 0

/-- The position of a station (R28). -/
def Profile.position (p : Profile) (i : Station) : Nat × Nat := p.positions.getD i.val (0, 0)

/-- The number of yard zones (R44). -/
def Profile.zoneCount (p : Profile) : Nat := p.zones.length

/-! ## Trace offers (R184 to R187) -/

/-- The bit number of a kind: its position in the table of R185 (R195). -/
def TraceKind.bit : TraceKind → Nat
  | .frameIn => 0
  | .frameOut => 1
  | .checkFail => 2
  | .echoFail => 3
  | .markCollision => 4
  | .markOpened => 5
  | .slotDisagree => 6
  | .burstCut => 7
  | .duplicate => 8
  | .resync => 9
  | .transferSent => 10
  | .transferInstalled => 11
  | .transferDiscarded => 12
  | .diverged => 13
  | .restart => 14

/-- Whether a kind or freeze set names a kind. -/
def inSet (set : Word16) (k : TraceKind) : Bool := set.getLsbD k.bit

/-- The source test of R186. -/
def TraceSettings.passes (t : TraceSettings) : Option Station → Bool
  | some i => ((BitVec.ofNat 5 i.val ^^^ t.srcValue) &&& t.srcMask) == 0
  | none => t.srcMask == 0

/-- Whether an offered event is recorded (R186). -/
def Trace.records (t : Trace) (k : TraceKind) (src : Option Station) : Bool :=
  !t.frozen &&
    match t.settings.mode with
    | .off => false
    | .all => true
    | .matching => inSet t.settings.kindSet k && t.settings.passes src

/-- A ring of at most 48 entries with one more as its newest (R184). -/
def pushEntry (ring : List TraceEntry) (e : TraceEntry) : List TraceEntry :=
  (ring ++ [e]).drop (ring.length + 1 - 48)

/-- Whether an offer freezes the ring (R187). -/
def Trace.freezes (t : Trace) (e : TraceEntry) : Bool :=
  t.records e.kind e.source && inSet t.settings.freezeSet e.kind

/-- The trace after an offer (R186, R187). -/
def Trace.offer (t : Trace) (e : TraceEntry) : Trace :=
  if t.records e.kind e.source then
    { t with
      ring := pushEntry t.ring e
      frozen := inSet t.settings.freezeSet e.kind
      reason := if inSet t.settings.freezeSet e.kind then some e.kind else t.reason }
  else t

/-- The entry an offer would record (R185): the clocks and counters as they stand at the offer. -/
def State.entryFor (s : State) (k : TraceKind) (src : Option Station) (frame : Option FrameKind) (d : Detail) :
    TraceEntry :=
  ⟨s.time.localTick, s.line.cycle, s.line.opp, k, src, frame, d⟩

/-! ## Status events (R200) -/

/-- The bit of an event (R200). -/
def StatusEvent.bit : StatusEvent → Nat
  | .restarted => 0
  | .configFault => 1
  | .exception => 2
  | .diverged => 3
  | .lineLost => 4
  | .zoneRaised => 5
  | .sensorFault => 6
  | .traceFrozen => 7
  | .muted => 8

/-- The set holding one event. -/
def StatusEvent.mask (e : StatusEvent) : Word16 := BitVec.twoPow 16 e.bit

/-- The set of pending events after a raise, if it happens (R200). -/
def withEvent (b : Bool) (e : StatusEvent) (set : Word16) : Word16 := if b then set ||| e.mask else set

/-- A status event is raised when `b` holds (R200). -/
def raiseIf (b : Bool) (e : StatusEvent) (s : State) : State :=
  { s with panel.events := withEvent b e s.panel.events }

/-- A status event is raised (R200). -/
def raiseEvent (e : StatusEvent) (s : State) : State := raiseIf true e s

/-- An event is offered to the Line Trace (R186, R187). -/
def offer (k : TraceKind) (src : Option Station) (frame : Option FrameKind) (d : Detail) (s : State) : State :=
  { s with
    trace := s.trace.offer (s.entryFor k src frame d)
    panel.events := withEvent (s.trace.freezes (s.entryFor k src frame d)) .traceFrozen s.panel.events }

/-! ## Estimator reports (R54 to R58) -/

/-- The code of an exception (R54). -/
def ExcCode.number : ExcCode → Nat
  | .unsetOperand => 1
  | .zeroInterval => 2
  | .speedCeiling => 3
  | .speedFloor => 4
  | .horizon => 5

/-- A raw value held as a 32-bit signed number, the nearer end of the range when outside it (R54). -/
def clampRaw (r : Int) : BitVec 32 := BitVec.ofInt 32 (max (-2147483648) (min 2147483647 r))

/-- The enable of a code (R56): bits 0..4 of byte 231 (R202). With no configuration in force it reads as clear, the
model's choice (log 27). -/
def State.excEnabled (s : State) (c : ExcCode) : Bool :=
  match s.loader.loaded with
  | some l => l.enables.getLsbD (c.number - 1)
  | none => false

/-- The report disable setting (R56): bit 7 of byte 231. With no configuration in force it reads as clear, the model's
choice (log 27). -/
def State.reportDisable (s : State) : Bool :=
  match s.loader.loaded with
  | some l => l.enables.getLsbD 7
  | none => false

/-- The disabled counter of a code rises (R58). -/
def Counters.incDisabled (c : Counters) : ExcCode → Counters
  | .unsetOperand => { c with disabledUnset := satInc c.disabledUnset }
  | .zeroInterval => { c with disabledZero := satInc c.disabledZero }
  | .speedCeiling => { c with disabledCeiling := satInc c.disabledCeiling }
  | .speedFloor => { c with disabledFloor := satInc c.disabledFloor }
  | .horizon => { c with disabledHorizon := satInc c.disabledHorizon }

/-- The exception record after an enabled exception (R57). -/
def ExcRecord.update (r : ExcRecord) (ctx : ExcContext) (x : ExcReport) : ExcRecord where
  pending := true
  lastCode := some x.code
  frontId := some ctx.frontId
  slot := some ctx.slot
  sighting := ctx.sighting
  label := some ctx.label
  raw := clampRaw x.raw
  count := satIncByte r.count

/-- One report (R57, R58). -/
def report (ctx : ExcContext) (s : State) (x : ExcReport) : State :=
  { s with
    exc := if s.excEnabled x.code then s.exc.update ctx x else s.exc
    counters := if s.excEnabled x.code then s.counters else s.counters.incDisabled x.code
    panel.events := withEvent (s.excEnabled x.code && !s.reportDisable) .exception s.panel.events }

/-- Reports in their order (R54). -/
def reportAll (ctx : ExcContext) (xs : List ExcReport) (s : State) : State := xs.foldl (report ctx) s

/-! ## Restart (the values that both restarts share) -/

/-- The zone records of a station after restart (R165, R183): one for each zone its mask names, ascending, CLEAR
and DEGRADED. -/
def zonesOf (e : StationEntry) : List Zone :=
  ((List.finRange 8).filter (fun z => e.zoneMask.getLsbD z.val)).map
    (fun z => ⟨z, .clear, .none, none, false, true⟩)

/-- The values that every block but the Timebase, the Line Trace, the Panel Port and the Configuration Loader holds
after a restart under the configuration `c`, if one is in force (R19, R41, R59, R83, R113, R127, R150, R183). The
counters, which count on through LOADING, are not touched here. -/
def restartBlocks (c : Option Loaded) (s : State) : State :=
  { s with
    table := FrontTable.empty (match c with | some l => l.profile.zoneCount | none => 0)
    fusion := Fusion.empty
    exc := ExcRecord.empty
    sensor := Sensor.restarted
    detector := Detector.restarted
    outbound := []
    line := Line.restarted
    roster := Roster.restarted (match c with | some l => l.profile.stations | none => 0)
    agree := Agree.restarted
    warn := Warn.restarted (match c with | some l => zonesOf l.entry | none => []) }

end Sys2Proof.Machine
end

