-- ==== Sys2Proof/Machine/Flags.lean ====
section
/-! DEFINITION. The attention output and the conditions that are computed from the state and not stored: what the
book calls ALERT, NEED_TABLE, the cadence preference, and the ten conditions of LULL. -/

namespace Sys2Proof.Machine

/-- The maskable events, bits 2..8 (R200). -/
def maskableEvents : Word16 := 0x01FC

/-- The events that assert ATTN when pending: the non-maskable two and those whose mask bit is set (R201). With no
configuration in force the masks are not read. -/
def State.attentionSet (s : State) : Word16 :=
  match s.loader.loaded with
  | some c => 0x0003 ||| (c.masks &&& maskableEvents)
  | none => 0x0003

/-- ATTN is asserted (R201). -/
def State.attn (s : State) : Bool := (s.panel.events &&& s.attentionSet) != 0

/-- A slot is occupied (R1). -/
def Front.occupied (f : Front) : Bool := f.state != .free

/-- The Front Table has an occupied slot (R102, R154). -/
def FrontTable.anyOccupied (t : FrontTable) : Bool := t.slots.any Front.occupied

/-- The detector states that set the ALERT preference (R75). -/
def DetectorState.alerting : DetectorState → Bool
  | .rising _ | .gusting | .easing _ | .refractory => true
  | .calm | .blind => false

/-- The station's own conditions of ALERT, which its PRESENCE reports (R102). -/
def State.ownAlert (s : State) : Bool :=
  s.table.anyOccupied || s.outbound.any (fun g => g.kind == .onset) || s.detector.state.alerting

/-- Some entry other than the own holds a record with ALERT taken in the current cycle (R124). -/
def State.peerAlert (s : State) : Bool :=
  s.roster.entries.zipIdx.any (fun (e, i) =>
    i != s.own.val && e.takenIn == some s.line.cycle && e.last.any (·.alert))

/-- The cadence preference (R154). -/
def State.preference (s : State) : Cadence := if s.ownAlert || s.peerAlert then .alert else .quiet

/-- The gap of a cadence, in ms (R155). -/
def Profile.gapMs (p : Profile) : Cadence → Nat
  | .quiet => p.quietGapMs
  | .alert => p.alertGapMs

/-- The gap of a back-off delay: the QUIET gap in LISTENING, the preference's elsewhere (R94, R155). -/
def State.backoffGapMs (s : State) : Nat :=
  if s.mode = .listening then s.profile.quietGapMs else s.profile.gapMs s.preference

/-- The station requests a table (R136). -/
def State.requests (s : State) : Bool := s.agree.state != .agreed && !s.agree.installed

/-- The digest history's answer for a label (R130). -/
def historyOf (h : List (Word16 × Word16)) (label : Word16) : Option Word16 :=
  (h.find? (fun x => x.1 == label)).map (·.2)

/-- Every owned zone is CLEAR (R182). -/
def Warn.allClear (w : Warn) : Bool := w.zones.all (fun z => z.level == .clear)

/-- The Fusion Engine is idle with nothing waiting (R156, condition 5). -/
def State.fusionIdle (s : State) : Bool :=
  s.fusion.fusing.isNone && s.fusion.waiting.isNone && !s.agree.staging.held

/-- The open timer runs on ms. -/
def OpenTimer.runsMs : OpenTimer → Bool
  | .ms _ _ => true
  | _ => false

/-- The ten conditions of LULL (R156), in their order, on a station that transmits nothing: at LULL entry a transmission
in progress cannot exist (R93, log 20). -/
def State.lullReady (s : State) : Bool :=
  !s.resetHeld
    && s.profile.lullAllowed
    && s.mode == .active
    && s.line.cadence == .quiet
    && s.line.opp == .ended && !s.line.wakePending
    && s.fusionIdle
    && !s.agree.staging.active
    && s.outbound.isEmpty
    && s.detector.state == .calm
    && s.warn.allClear
    && s.time.lullGood
    && s.line.tx.isNone

end Sys2Proof.Machine
end

