-- ==== Sys2Proof/Machine/Estimator.lean ====
section
/-! DEFINITION. The Estimator's arithmetic (R43 to R53): velocity, arrivals and intensity of a front. -/

namespace Sys2Proof.Machine

/-- The integer square root, one base-4 digit of the operand a level of recursion (R43). -/
def isqrtFuel : Nat → Nat → Nat
  | 0, _ => 0
  | k + 1, n =>
    if n = 0 then 0
    else
      let r := 2 * isqrtFuel k (n / 4)
      if (r + 1) * (r + 1) ≤ n then r + 1 else r

/-- The integer square root: the floor of the square root of a non-negative integer (R43). -/
def isqrt (n : Nat) : Nat := isqrtFuel (n.log2 + 1) n

/-- The integer root of the sum of two squares: a distance in metres or a magnitude in cm/s (R28, R43). -/
def hypotenuse (a b : Int) : Nat := isqrt (a * a + b * b).toNat

/-- The distance of two points of the yard grid (R28, R43). -/
def distance (a b : Nat × Nat) : Nat := hypotenuse ((b.1 : Int) - a.1) ((b.2 : Int) - a.2)

/-! ## Velocity -/

/-- The re-estimate of a front (R46 to R49), with its report. The list order makes the interval zero or positive,
but for a list that spans more than 2^31 ticks, whose negative interval the model takes with zero (log 43). -/
def reestimate (p : Profile) (f : Front) : Front × List ExcReport :=
  match f.track.head?, f.track.getLast? with
  | some a, some l =>
    let pa := p.position a.station
    let pl := p.position l.station
    let dt := tickDiff l.onset a.onset
    if dt ≤ 0 then (f, [⟨.zeroInterval, distance pa pl⟩])
    else
      let vx0 := (((pl.1 : Int) - pa.1) * 10000).tdiv dt
      let vy0 := (((pl.2 : Int) - pa.2) * 10000).tdiv dt
      let m0 := hypotenuse vx0 vy0
      if m0 > p.speedCeiling then
        ({ f with vx := (vx0 * p.speedCeiling).tdiv m0, vy := (vy0 * p.speedCeiling).tdiv m0,
                  valid := true, stalled := false }, [⟨.speedCeiling, m0⟩])
      else if m0 < p.speedFloor then
        ({ f with vx := 0, vy := 0, valid := true, stalled := true }, [⟨.speedFloor, m0⟩])
      else
        ({ f with vx := vx0, vy := vy0, valid := true, stalled := false }, [])
  | _, _ => (f, [])

/-! ## Arrival -/

/-- The lead of R52, rounded as the profile says. -/
def leadTicks (r : Rounding) (metres closing : Nat) : Nat :=
  match r with
  | .early => metres * 10000 / closing
  | .nearest => (2 * (metres * 10000) + closing) / (2 * closing)

/-- The arrival item of a front with a usable velocity at one zone (R50 to R52), with its report. -/
def arrivalAt (p : Profile) (f : Front) (latest : Entry) (z : YardZone) : Arrival × List ExcReport :=
  let pl := p.position latest.station
  let dx := (z.cx : Int) - pl.1
  let dy := (z.cy : Int) - pl.2
  let dist := hypotenuse dx dy
  if dist ≤ z.radius then (.time latest.onset, [])
  else
    let closing := (dx * f.vx + dy * f.vy).tdiv dist
    if closing ≤ 0 then (.receding, [])
    else
      let lead := leadTicks p.rounding (dist - z.radius) closing.toNat
      if lead ≤ p.horizonT then (.time (latest.onset + BitVec.ofNat 32 lead), [])
      else (.beyond, [⟨.horizon, lead⟩])

/-- The arrival list of a front, with its reports in zone order (R50). -/
def arrivalList (p : Profile) (f : Front) : List Arrival × List ExcReport :=
  if !f.valid || f.stalled then (p.zones.map (fun _ => .none), [])
  else
    match f.track.getLast? with
    | some l =>
      let items := p.zones.map (arrivalAt p f l)
      (items.map (·.1), (items.map (·.2)).flatten)
    | none => (p.zones.map (fun _ => .none), [])

/-! ## Intensity -/

/-- The greater of two measurements, UNSET skipped (R53). -/
def maxDust : Option (Fin 4) → Option (Fin 4) → Option (Fin 4)
  | some a, some b => some (max a b)
  | some a, none => some a
  | none, b => b

/-- The greater of two measurements, UNSET skipped (R53). -/
def maxPeak : Option Nat → Option Nat → Option Nat
  | some a, some b => some (max a b)
  | some a, none => some a
  | none, b => b

/-- The dust intensity of a track list (R53). -/
def dustIntensity (track : List Entry) : Option (Fin 4) := track.foldl (fun m e => maxDust m e.dust) none

/-- The peak intensity of a track list (R53). -/
def peakIntensity (track : List Entry) : Option Nat := track.foldl (fun m e => maxPeak m e.peak) none

/-- The report of a measurement that is UNSET (R45, R54). -/
def unsetReport {α : Type} (operand : Int) : Option α → List ExcReport
  | none => [⟨.unsetOperand, operand⟩]
  | some _ => []

/-- The recomputation of the derived fields (R7, R50, R53), with its reports in their order (R54). -/
def recompute (p : Profile) (f : Front) : Front × List ExcReport :=
  ({ f with dustI := dustIntensity f.track, peakI := peakIntensity f.track, arrivals := (arrivalList p f).1 },
   unsetReport 2 (dustIntensity f.track) ++ unsetReport 3 (peakIntensity f.track) ++ (arrivalList p f).2)

end Sys2Proof.Machine
end

