-- ==== Sys2Proof/Machine/Fronts.lean ====
section
/-! DEFINITION. The Front Table's operations (R3 to R15) and the association of sightings (R28 to R36), as functions of
one front or one table. -/

namespace Sys2Proof.Machine

/-! ## Entries and track lists -/

/-- The entry made from an ONSET (R3). -/
def Sighting.toEntry (g : Sighting) : Entry := ⟨g.source, g.sid, g.time, g.peak, g.sector, g.dust, false⟩

/-- `a` stands before a new entry `e` (R4): an earlier onset time, or an equal one and a lower station number. -/
def Entry.before (a e : Entry) : Bool :=
  tickDiff e.onset a.onset > 0 || (tickDiff e.onset a.onset == 0 && a.station.val < e.station.val)

/-- The insertion of R4, before the check of the length: before the first entry that does not stand before the new one.
In a list that spans more than 2^31 ticks, which the FIELD check can let pass (log 43), the entries of R4 that the new
one goes after need not come first, and its two placements can conflict; the place taken then is the model's own choice
(log 43). -/
def insertEntry (e : Entry) : List Entry → List Entry
  | [] => [e]
  | a :: rest => if a.before e then a :: insertEntry e rest else e :: a :: rest

/-- The check of the length (R4): a list of 7 loses position 1. -/
def trimTrack : List Entry → List Entry
  | a :: b :: rest => if (a :: b :: rest).length > 6 then a :: rest else a :: b :: rest
  | l => l

/-- The track list holds an entry from a station. -/
def Front.hasStation (f : Front) (i : Station) : Bool := f.track.any (fun e => e.station == i)

/-- The track list holds the entry of a station and a sighting id. -/
def Front.hasEntry (f : Front) (i : Station) (sid : Byte) : Bool :=
  f.occupied && f.track.any (fun e => e.station == i && e.sid == sid)

/-- The newest entry time (R3); 0 for a list that is empty, which no occupied slot has. -/
def Front.newest (f : Front) : Tick :=
  match f.track.getLast? with
  | some e => e.onset
  | none => 0

/-- The age of the newest entry (R9). -/
def Front.age (f : Front) (now : Tick) : Int := tickDiff now f.newest

/-! ## Association (R28 to R34) -/

/-- The test of a TRACKED front and its residual (R30). -/
def trackedTest (p : Profile) (f : Front) (g : Sighting) : Option Nat :=
  match f.track.head?, f.track.getLast? with
  | some a, some l =>
    if tickDiff g.time a.onset < 0 then none
    else
      let dt := tickDiff g.time l.onset
      let pl := p.position l.station
      let ps := p.position g.source
      let ex := (f.vx * dt).tdiv 10000
      let ey := (f.vy * dt).tdiv 10000
      let residual := hypotenuse ((ps.1 : Int) - (pl.1 + ex)) ((ps.2 : Int) - (pl.2 + ey))
      if residual ≤ p.assocRadius then some residual else none
  | _, _ => none

/-- The fold index of R32. -/
def foldIndex (a c : Nat) : Nat :=
  if 10000 * a < 1989 * c then 0
  else if 10000 * a < 6682 * c then 1
  else if 10000 * a < 14966 * c then 2
  else if 10000 * a < 50273 * c then 3
  else 4

/-- The bearing sector of a step (R32). -/
def bearing (dx dy : Int) : Nat :=
  let f := foldIndex dx.natAbs dy.natAbs
  if dx ≥ 0 then (if dy ≥ 0 then f else 8 - f)
  else (if dy < 0 then 8 + f else (16 - f) % 16)

/-- The circular difference of a bearing sector and the downwind sector of `s0` (R32). -/
def downwindDifference (b : Nat) (s0 : Fin 16) : Nat :=
  let d := (b + 32 - (s0.val + 8)) % 16
  min d (16 - d)

/-- The tests of a FORMING front against its origin, its residual, and whether its bearing test met an UNSET sector
(R31 to R33). -/
def formingTest (p : Profile) (f : Front) (g : Sighting) : Option Nat × Bool :=
  match f.track.head? with
  | none => (none, false)
  | some o =>
    let dt := tickDiff g.time o.onset
    let p0 := p.position o.station
    let ps := p.position g.source
    let d := distance p0 ps
    if !(dt > 0 && dt ≤ p.pairingT) then (none, false)
    else if !(d > 0 && (d * 10000 : Int) ≥ p.speedFloor * dt && (d * 10000 : Int) ≤ p.speedCeiling * dt) then
      (none, false)
    else
      let n := p.nominalSpeed * dt.toNat / 10000
      let residual := ((d : Int) - n).natAbs
      match o.sector with
      | none => (some residual, true)
      | some s0 =>
        if downwindDifference (bearing ((ps.1 : Int) - p0.1) ((ps.2 : Int) - p0.2)) s0 ≤ 2 then
          (some residual, false)
        else (none, false)

/-- The test of one slot (R29): its residual if it is a candidate, and whether it reports an UNSET operand. -/
def slotTest (p : Profile) (g : Sighting) (f : Front) : Option Nat × Bool :=
  if f.hasStation g.source then (none, false)
  else
    match f.state with
    | .tracked => (trackedTest p f g, false)
    | .forming => formingTest p f g
    | .free | .decaying => (none, false)

/-- The better of a best slot so far and a next slot: the smaller residual, the lower slot when equal (R34). -/
def better (best : Option (Nat × Nat)) (residual : Option Nat) (i : Nat) : Option (Nat × Nat) :=
  match best, residual with
  | some (r, j), some r' => if r' < r then some (r', i) else some (r, j)
  | none, some r' => some (r', i)
  | best, none => best

/-- The candidate with the smallest residual, from slot `i` on (R34). -/
def bestSlotFrom (p : Profile) (g : Sighting) : Option (Nat × Nat) → Nat → List Front → Option (Nat × Nat)
  | best, _, [] => best
  | best, i, f :: rest => bestSlotFrom p g (better best (slotTest p g f).1 i) (i + 1) rest

/-- The slot an ONSET is placed in, if any is a candidate (R34). -/
def bestSlot (p : Profile) (g : Sighting) (slots : List Front) : Option Nat :=
  (bestSlotFrom p g none 0 slots).map (·.2)

/-- The slots whose bearing test met an UNSET sector, with their front ids, in slot order (R29, R32). -/
def unsetBearings (p : Profile) (g : Sighting) (slots : List Front) : List (Nat × Byte) :=
  (slots.zipIdx.filter (fun (f, _) => (slotTest p g f).2)).map (fun (f, i) => (i, f.id))

/-- A FORMING front whose velocity-valid flag is set becomes TRACKED (R11). -/
def promote (f : Front) : Front := if f.state = .forming ∧ f.valid then { f with state := .tracked } else f

/-- The placement of an ONSET in a front (R34), with its reports. -/
def placeInFront (p : Profile) (f : Front) (g : Sighting) : Front × List ExcReport :=
  let f1 := { f with track := trimTrack (insertEntry g.toEntry f.track) }
  let r := reestimate p f1
  let d := recompute p (promote r.1)
  (d.1, r.2 ++ d.2)

/-! ## Creation (R8 to R10) -/

/-- The lowest-numbered FREE slot. -/
def lowestFree (slots : List Front) : Option Nat := slots.findIdx? (fun f => f.state == .free)

/-- The oldest DECAYING slot so far and a next slot: the greater age, the lower slot when equal (R9). -/
def older (now : Tick) (best : Option (Int × Nat)) (i : Nat) (f : Front) : Option (Int × Nat) :=
  if f.state = .decaying then
    match best with
    | some (a, j) => if f.age now > a then some (f.age now, i) else some (a, j)
    | none => some (f.age now, i)
  else best

/-- The oldest DECAYING slot from slot `i` on. -/
def oldestFrom (now : Tick) : Option (Int × Nat) → Nat → List Front → Option (Int × Nat)
  | best, _, [] => best
  | best, i, f :: rest => oldestFrom now (older now best i f) (i + 1) rest

/-- The slot that eviction frees (R9). -/
def evictable (now : Tick) (slots : List Front) : Option Nat := (oldestFrom now none 0 slots).map (·.2)

/-- The slot chosen for a new front (R8). -/
def slotForNew (now : Tick) (slots : List Front) : Option Nat :=
  match lowestFree slots with
  | some i => some i
  | none => evictable now slots

/-- The front id after an id, 255 followed by 1 (R10). -/
def idAfter (id : Byte) : Byte := if id = 0xFF then 1 else id + 1

/-- The first id from `id` on that no occupied slot carries (R10), within the steps allowed. -/
def firstFreeId : Nat → Byte → List Front → Byte
  | 0, id, _ => id
  | k + 1, id, slots =>
    if slots.any (fun f => f.occupied && f.id == id) then firstFreeId k (idAfter id) slots else id

/-- The id a new front takes: the count ends within 9 steps (R10). -/
def assignId (next : Byte) (slots : List Front) : Byte := firstFreeId 9 next slots

/-- A new FORMING front (R8), before its derived fields are computed. -/
def Front.created (id : Byte) (g : Sighting) : Front where
  state := .forming
  id := id
  stalled := false
  valid := false
  vx := 0
  vy := 0
  track := [g.toEntry]
  dustI := none
  peakI := none
  arrivals := []

/-! ## Subsidence (R5, R36) -/

/-- The entries of a station and sighting id marked subsided. -/
def markEntries (i : Station) (sid : Byte) (track : List Entry) : List Entry :=
  track.map (fun e => if e.station = i ∧ e.sid = sid then { e with subsided := true } else e)

/-- A FORMING or TRACKED front whose every entry is subsided becomes DECAYING (R5). -/
def settleSubsided (f : Front) : Front :=
  if (f.state = .forming ∨ f.state = .tracked) ∧ f.track.all (·.subsided) then { f with state := .decaying } else f

/-- The marking of an entry in its front (R5), with the reports of the recomputation. -/
def subsideFront (p : Profile) (i : Station) (sid : Byte) (f : Front) : Front × List ExcReport :=
  recompute p (settleSubsided { f with track := markEntries i sid f.track })

/-- The lowest slot that holds the entry (R5, R36). -/
def matchingSlot (i : Station) (sid : Byte) (slots : List Front) : Option Nat :=
  slots.findIdx? (fun f => f.hasEntry i sid)

/-! ## Aging (R12) -/

/-- The aging of one slot: the two tests in turn. -/
def ageFront (p : Profile) (now : Tick) (f : Front) : Front :=
  if f.state = .free then f
  else if f.age now > (p.decayT + p.releaseT : Nat) then Front.empty p.zoneCount
  else if f.age now > p.decayT ∧ f.state ≠ .decaying then { f with state := .decaying }
  else f

/-! ## Well-formed records (R15) -/

/-- The entries stand in track-list order (R3), judged between neighbours. The modular order is not transitive: in a list
that spans more than 2^31 ticks the first onset may be later than the latest, and the model, by its own choice, passes
such a list (log 43). -/
def trackOrdered : List Entry → Bool
  | a :: b :: rest => a.before b && trackOrdered (b :: rest)
  | _ => true

/-- No two entries come from the same station (R3). -/
def stationsDistinct (track : List Entry) : Bool := (track.map (·.station)).Nodup

/-- An entry's measurements lie in their ranges or are UNSET (R15); the sector and the dust class do by their type. -/
def Entry.inRange (n : Nat) (e : Entry) : Bool :=
  e.station.val < n && (match e.peak with | some v => v ≤ 1022 | none => true)

/-- A front record is well formed (R15), in a yard of `n` stations and `zc` zones. -/
def Front.wellFormed (n zc : Nat) (f : Front) : Bool :=
  if f.state = .free then f == Front.empty zc
  else
    f.id != 0
      && (1 ≤ f.track.length && f.track.length ≤ 6)
      && trackOrdered f.track && stationsDistinct f.track && f.track.all (Entry.inRange n)
      && (-3000 ≤ f.vx && f.vx ≤ 3000 && -3000 ≤ f.vy && f.vy ≤ 3000)
      && (f.valid || (f.vx == 0 && f.vy == 0 && !f.stalled))
      && (!f.stalled || (f.valid && f.vx == 0 && f.vy == 0))
      && (f.state != .forming || !f.valid)
      && (f.state != .tracked || (f.valid && 2 ≤ f.track.length))
      && (f.state == .decaying || f.track.any (fun e => !e.subsided))

/-- The ids of the occupied slots. -/
def occupiedIds (slots : List Front) : List Byte := (slots.filter Front.occupied).map (·.id)

/-- A table is well formed (R15). -/
def FrontTable.wellFormed (n zc : Nat) (t : FrontTable) : Bool :=
  t.slots.length == 8 && t.slots.all (Front.wellFormed n zc) && (occupiedIds t.slots).Nodup && t.nextId != 0

end Sys2Proof.Machine
end

