-- ==== Sys2Proof/Machine/Operands.lean ====
section
/-! DEFINITION. Bytes: the CRC-16 (R87), the frame layout and its codes (R85 to R89), the collection of a frame from its
characters (R86), the receive checks (R90, R91) and the table digest (R16). -/

namespace Sys2Proof.Machine

/-! ## Bytes and the CRC-16 -/

/-- A 16-bit field, most significant byte first (R88). -/
def be16 (w : Word16) : List Byte := [w.extractLsb' 8 8, w.extractLsb' 0 8]

/-- A 32-bit field, most significant byte first (R88). -/
def be32 (w : Tick) : List Byte := [w.extractLsb' 24 8, w.extractLsb' 16 8, w.extractLsb' 8 8, w.extractLsb' 0 8]

/-- A 16-bit field read. -/
def ofBe16 (a b : Byte) : Word16 := a ++ b

/-- A 32-bit field read. -/
def ofBe32 (a b c d : Byte) : Tick := a ++ b ++ c ++ d

/-- A byte that holds a small number. -/
def byteOf (n : Nat) : Byte := BitVec.ofNat 8 n

/-- A byte that holds a flag. -/
def flagByte (b : Bool) : Byte := if b then 1 else 0

/-- One bit enters the CRC register (R87): the feedback, the shift, the polynomial. -/
def crcBit (reg : Word16) (bit : Bool) : Word16 :=
  if bit ^^ reg.msb then (reg <<< 1) ^^^ 0x8005 else reg <<< 1

/-- One byte enters the CRC register, its most significant bit first (R87). -/
def crcByte (reg : Word16) (b : Byte) : Word16 :=
  crcBit (crcBit (crcBit (crcBit (crcBit (crcBit (crcBit (crcBit reg (b.getLsbD 7)) (b.getLsbD 6)) (b.getLsbD 5))
    (b.getLsbD 4)) (b.getLsbD 3)) (b.getLsbD 2)) (b.getLsbD 1)) (b.getLsbD 0)

/-- The CRC-16 of a sequence of bytes, preset to FFFFh (R87). -/
def crc16 (bytes : List Byte) : Word16 := bytes.foldl crcByte 0xFFFF

/-! ## Codes (R88, R89) -/

/-- Peak speed or wind speed: 1023 for UNSET. -/
def speedCode : Option Nat → Word16
  | some v => BitVec.ofNat 16 v
  | none => 1023

/-- A speed read, if its code is one. -/
def ofSpeedCode (w : Word16) : Option (Option Nat) :=
  if w.toNat ≤ 1022 then some (some w.toNat) else if w = 1023 then some none else none

/-- Sector: 31 for UNSET. -/
def sectorCode : Option (Fin 16) → Byte
  | some v => byteOf v.val
  | none => 31

/-- A sector read, if its code is one. -/
def ofSectorCode (b : Byte) : Option (Option (Fin 16)) :=
  if b.toNat ≤ 15 then some (some (Fin.ofNat 16 b.toNat)) else if b = 31 then some none else none

/-- Dust class: 7 for UNSET. -/
def dustCode : Option (Fin 4) → Byte
  | some v => byteOf v.val
  | none => 7

/-- A dust class read, if its code is one. -/
def ofDustCode (b : Byte) : Option (Option (Fin 4)) :=
  if b.toNat ≤ 3 then some (some (Fin.ofNat 4 b.toNat)) else if b = 7 then some none else none

/-- Front state: FREE 0, FORMING 1, TRACKED 2, DECAYING 3 (R89). -/
def FrontState.code : FrontState → Byte
  | .free => 0
  | .forming => 1
  | .tracked => 2
  | .decaying => 3

/-- Frame kind (R88). -/
def FrameKind.code : FrameKind → Byte
  | .mark => 0
  | .presence => 1
  | .sighting => 2
  | .transfer => 3

/-- Cadence (R88). -/
def Cadence.code : Cadence → Byte
  | .quiet => 0
  | .alert => 1

/-- Agreement state (R88). -/
def AgreeState.code : AgreeState → Byte
  | .joining => 0
  | .agreed => 1
  | .diverged => 2

/-- Level (R88). -/
def Level.code : Level → Byte
  | .clear => 0
  | .watch => 1
  | .warn => 2
  | .alarm => 3

/-- A level read from bits 1..0. -/
def ofLevelCode (n : Nat) : Level :=
  match n % 4 with
  | 0 => .clear
  | 1 => .watch
  | 2 => .warn
  | _ => .alarm

/-! ## Payloads composed (R88, R89) -/

/-- The header byte (R88). -/
def headerByte (k : FrameKind) (final : Bool) (src : Station) : Byte :=
  byteOf (k.code.toNat * 64 + (flagByte final).toNat * 32 + src.val)

/-- The MARK payload (R88). -/
def markPayload (n : Nat) (m : MarkBody) : List Byte :=
  be16 m.cycle ++ be32 m.time ++ [m.cadence.code, byteOf n]

/-- A channel byte of a PRESENCE (R88): zone 15 and CLEAR for a channel with no zone. -/
def channelByte : Option (Fin 8 × Level) → Byte
  | some (z, l) => byteOf (z.val * 16 + l.code.toNat)
  | none => 0xF0

/-- The flag byte of a PRESENCE (R88). -/
def presenceFlags (p : Presence) : Byte :=
  byteOf ((flagByte p.fused.isSome).toNat + (flagByte p.alert).toNat * 2 + (flagByte p.needTable).toNat * 4
    + (flagByte p.sensorFault).toNat * 8)

/-- The PRESENCE payload (R88). -/
def presencePayload (p : Presence) : List Byte :=
  be16 p.cycle ++ be16 (p.fused.getD 0) ++ [presenceFlags p]
    ++ be16 (if p.fused.isSome then p.digest.getD 0 else 0) ++ be16 p.profileDigest
    ++ [p.agree.code] ++ be16 (speedCode p.wind) ++ [sectorCode p.sector]
    ++ [channelByte (p.channels.getD 0 none), channelByte (p.channels.getD 1 none),
        channelByte (p.channels.getD 2 none), channelByte (p.channels.getD 3 none)]

/-- The SIGHTING payload (R88). -/
def sightingPayload (g : Sighting) : List Byte :=
  [(if g.kind = .onset then 0 else 1), flagByte g.cut, g.sid, g.onsetRef.getD 0]
    ++ be32 g.time ++ be16 (speedCode g.peak) ++ [sectorCode g.sector, dustCode g.dust]

/-- The TRANSFER coding of an entry (R89). -/
def entryBytes (e : Entry) : List Byte :=
  [byteOf (e.station.val * 8 + (dustCode e.dust).toNat), e.sid] ++ be32 e.onset
    ++ be16 (BitVec.ofNat 16 ((speedCode e.peak).toNat * 64 + (sectorCode e.sector).toNat * 2
        + (flagByte e.subsided).toNat))

/-- The six fixed bytes of a front record (R89). -/
def recordFixed (f : Front) : List Byte :=
  [byteOf (f.state.code.toNat * 64 + (flagByte f.stalled).toNat * 32 + (flagByte f.valid).toNat * 16
      + f.track.length), f.id]
    ++ be16 (BitVec.ofInt 16 f.vx) ++ be16 (BitVec.ofInt 16 f.vy)

/-- The TRANSFER payload (R89). -/
def transferPayload (t : TransferBody) : List Byte :=
  be16 t.label ++ be16 t.digest ++ [t.nextId, byteOf t.count]
    ++ (match t.slot with
        | none => [0xFF]
        | some (i, f) => byteOf i.val :: (recordFixed f ++ f.track.flatMap entryBytes))

/-- A frame's payload, in a yard of `n` stations. -/
def Body.payload (n : Nat) : Body → List Byte
  | .mark m => markPayload n m
  | .presence p => presencePayload p
  | .sighting g => sightingPayload g
  | .transfer t => transferPayload t

/-- A whole frame (R86): the start delimiter, the header, the length, the payload and its CRC (R87). -/
def frameBytes (n : Nat) (src : Station) (final : Bool) (b : Body) : List Byte :=
  let body := headerByte b.kind final src :: byteOf (b.payload n).length :: b.payload n
  0x6B :: (body ++ be16 (crc16 body))

/-- The bits of a character as the line carries them (R85): the start bit at the space level, the eight data bits
least significant first, the stop bit at the mark level (`true`). -/
def charBits (b : Byte) : List Bool := false :: (List.range 8).map b.getLsbD ++ [true]

/-- The characters of an undisturbed frame. -/
def cleanChars (bytes : List Byte) : List RxChar := bytes.map (fun b => ⟨b, true, 0⟩)

/-! ## Collecting a frame (R86) -/

/-- Exactly `n` further characters, each without a gap of more than 400 µs and with its stop bit at the mark level. -/
def goodChars : Nat → List RxChar → Option (List Byte)
  | 0, _ => some []
  | _ + 1, [] => none
  | n + 1, c :: rest =>
    if c.stopOk && c.gap ≤ 400 then (goodChars n rest).map (c.value :: ·) else none

/-- The frame that the receive path collects from the characters on the line (R86). A frame cut by its header character
itself, a bad stop bit or a gap, has no header byte: R185 does not say, and the model counts it as cut before its header
(log 46). -/
def collect : List RxChar → RxFrame
  | [] => .cut none
  | d :: rest =>
    if d.value = 0x6B ∧ d.stopOk then
      match goodChars 2 rest with
      | some [h, l] =>
        if l.toNat ≤ 64 then
          match goodChars (l.toNat + 2) (rest.drop 2) with
          | some bytes =>
            .whole h l (bytes.take l.toNat) (ofBe16 (bytes.getD l.toNat 0) (bytes.getD (l.toNat + 1) 0))
          | none => .cut (some h)
        else .cut (some h)
      | _ =>
        match goodChars 1 rest with
        | some [h] => .cut (some h)
        | _ => .cut none
    else .cut none

/-! ## Reading a frame (R88 to R91) -/

/-- The source of a header byte. -/
def headerSource (h : Byte) : Station := Fin.ofNat 32 h.toNat

/-- The FINAL flag of a header byte. -/
def headerFinal (h : Byte) : Bool := h.getLsbD 5

/-- The kind of a header byte. -/
def headerKind (h : Byte) : FrameKind :=
  match h.toNat / 64 with
  | 0 => .mark
  | 1 => .presence
  | 2 => .sighting
  | _ => .transfer

/-- The lengths allowed for a kind (R90, check 2). -/
def lengthAllowed : FrameKind → Nat → Bool
  | .mark, l => l == 8
  | .presence, l => l == 17
  | .sighting, l => l == 12
  | .transfer, l => [7, 21, 29, 37, 45, 53, 61].contains l

/-- A MARK's payload under the FIELD check (R91). -/
def readMark (n : Nat) : List Byte → Option MarkBody
  | [c0, c1, t0, t1, t2, t3, cad, sc] =>
    if sc.toNat = n then
      if cad = 0 then some ⟨ofBe16 c0 c1, ofBe32 t0 t1 t2 t3, .quiet⟩
      else if cad = 1 then some ⟨ofBe16 c0 c1, ofBe32 t0 t1 t2 t3, .alert⟩
      else none
    else none
  | _ => none

/-- A channel byte under the FIELD check (R88, R91). -/
def readChannel (b : Byte) : Option (Option (Fin 8 × Level)) :=
  if b.toNat / 4 % 4 = 0 then
    if b.toNat / 16 ≤ 7 then some (some (Fin.ofNat 8 (b.toNat / 16), ofLevelCode b.toNat))
    else if b = 0xF0 then some none
    else none
  else none

/-- An agreement state read. -/
def readAgree (b : Byte) : Option AgreeState :=
  if b = 0 then some .joining else if b = 1 then some .agreed else if b = 2 then some .diverged else none

/-- A PRESENCE's payload under the FIELD check (R91). -/
def readPresence : List Byte → Option Presence
  | [c0, c1, l0, l1, fl, d0, d1, q0, q1, ag, w0, w1, se, h0, h1, h2, h3] =>
    if fl.toNat < 16 then
      match readAgree ag, ofSpeedCode (ofBe16 w0 w1), ofSectorCode se, readChannel h0, readChannel h1,
          readChannel h2, readChannel h3 with
      | some agree, some wind, some sector, some k0, some k1, some k2, some k3 =>
        some
          { cycle := ofBe16 c0 c1
            fused := if fl.getLsbD 0 then some (ofBe16 l0 l1) else none
            digest := if fl.getLsbD 0 then some (ofBe16 d0 d1) else none
            profileDigest := ofBe16 q0 q1
            alert := fl.getLsbD 1
            needTable := fl.getLsbD 2
            sensorFault := fl.getLsbD 3
            agree := agree
            wind := wind
            sector := sector
            channels := [k0, k1, k2, k3] }
      | _, _, _, _, _, _, _ => none
    else none
  | _ => none

/-- A SIGHTING's payload under the FIELD check (R91). -/
def readSighting (src : Station) : List Byte → Option Sighting
  | [k, cut, sid, ref, t0, t1, t2, t3, p0, p1, se, du] =>
    match ofSpeedCode (ofBe16 p0 p1), ofSectorCode se, ofDustCode du with
    | some peak, some sector, some dust =>
      if k = 0 ∧ cut = 0 ∧ ref = 0 then
        some ⟨.onset, src, sid, none, ofBe32 t0 t1 t2 t3, peak, sector, dust, false⟩
      else if k = 1 ∧ (cut = 0 ∨ cut = 1) then
        some ⟨.subside, src, sid, some ref, ofBe32 t0 t1 t2 t3, peak, sector, dust, cut == 1⟩
      else none
    | _, _, _ => none
  | _ => none

/-- The entries of a front record (R89). -/
def readEntries : List Byte → Option (List Entry)
  | [] => some []
  | b0 :: sid :: t0 :: t1 :: t2 :: t3 :: m0 :: m1 :: rest =>
    let m := (ofBe16 m0 m1).toNat
    match ofSpeedCode (BitVec.ofNat 16 (m / 64)), ofSectorCode (byteOf (m / 2 % 32)), ofDustCode (byteOf (b0.toNat % 8)),
        readEntries rest with
    | some peak, some sector, some dust, some es =>
      some (⟨Fin.ofNat 32 (b0.toNat / 8), sid, ofBe32 t0 t1 t2 t3, peak, sector, dust, m % 2 == 1⟩ :: es)
    | _, _, _, _ => none
  | _ => none

/-- A front state other than FREE, from bits 7..6 of the record (R89). -/
def readFrontState (n : Nat) : Option FrontState :=
  match n with
  | 1 => some .forming
  | 2 => some .tracked
  | 3 => some .decaying
  | _ => none

/-- A front record under the FIELD check (R91, R15). Its derived fields are not carried and stand empty. -/
def readRecord (n : Nat) : List Byte → Option Front
  | b :: id :: x0 :: x1 :: y0 :: y1 :: rest =>
    match readFrontState (b.toNat / 64), readEntries rest with
    | some st, some es =>
      let f : Front :=
        { state := st, id := id, stalled := b.getLsbD 5, valid := b.getLsbD 4,
          vx := (ofBe16 x0 x1).toInt, vy := (ofBe16 y0 y1).toInt, track := es,
          dustI := none, peakI := none, arrivals := [] }
      if b.getLsbD 3 = false ∧ b.toNat % 8 = es.length ∧ f.wellFormed n 0 then some f else none
    | _, _ => none
  | _ => none

/-- A TRANSFER's payload under the FIELD check (R91). -/
def readTransfer (n : Nat) : List Byte → Option TransferBody
  | l0 :: l1 :: d0 :: d1 :: nid :: cnt :: slot :: rest =>
    if nid ≠ 0 ∧ cnt.toNat ≤ 8 then
      if slot = 0xFF then
        if cnt = 0 ∧ rest = [] then some ⟨ofBe16 l0 l1, ofBe16 d0 d1, nid, 0, none⟩ else none
      else if slot.toNat ≤ 7 ∧ cnt ≠ 0 then
        (readRecord n rest).map (fun f =>
          ⟨ofBe16 l0 l1, ofBe16 d0 d1, nid, cnt.toNat, some (Fin.ofNat 8 slot.toNat, f)⟩)
      else none
    else none
  | _ => none

/-- A payload under the FIELD check of its kind (R91), in a yard of `n` stations. -/
def readBody (n : Nat) (k : FrameKind) (src : Station) (payload : List Byte) : Option Body :=
  match k with
  | .mark => (readMark n payload).map .mark
  | .presence => (readPresence payload).map .presence
  | .sighting => (readSighting src payload).map .sighting
  | .transfer => (readTransfer n payload).map .transfer

/-- The receive checks in their order (R90), on station `own` of a yard of `n` stations. -/
def judge (n : Nat) (own : Station) (chars : List RxChar) : Verdict :=
  match collect chars with
  | .cut h => .rejected .check true h
  | .whole h l payload crc =>
    if crc16 (h :: l :: payload) ≠ crc then .rejected .check false (some h)
    else if !lengthAllowed (headerKind h) l.toNat then .rejected .length false (some h)
    else if (headerSource h).val ≥ n then .rejected .source false (some h)
    else if headerSource h = own then .rejected .own false (some h)
    else
      match readBody n (headerKind h) (headerSource h) payload with
      | some b => .taken (headerSource h) (headerFinal h) b
      | none => .rejected .field false (some h)

/-! ## The table digest (R16) -/

/-- An entry as it enters the digest (R16, R89). -/
def entryDigestBytes (e : Entry) : List Byte :=
  [byteOf e.station.val, e.sid] ++ be32 e.onset ++ be16 (speedCode e.peak)
    ++ [sectorCode e.sector, dustCode e.dust, flagByte e.subsided]

/-- A slot as it enters the digest (R16, R89). -/
def frontDigestBytes (f : Front) : List Byte :=
  [f.state.code, f.id, flagByte f.stalled, flagByte f.valid]
    ++ be16 (BitVec.ofInt 16 f.vx) ++ be16 (BitVec.ofInt 16 f.vy)
    ++ byteOf f.track.length :: f.track.flatMap entryDigestBytes

/-- The sequence of R16. -/
def tableDigestBytes (slots : List Front) (nextId : Byte) : List Byte := slots.flatMap frontDigestBytes ++ [nextId]

/-- The table digest (R16). -/
def tableDigest (slots : List Front) (nextId : Byte) : Word16 := crc16 (tableDigestBytes slots nextId)

end Sys2Proof.Machine
end

