-- ==== Sys2Proof/Machine/Warning.lean ====
section
/-! DEFINITION. The Warning Unit (R165 to R183): front levels, evaluations, DEGRADED, the pattern generators, and the
commands PER_SECOND_EVALUATION, HOLD_EXPIRY and PATTERN_PERIOD_END. -/

namespace Sys2Proof.Machine

/-! ## Levels (R165, R167, R168) -/

/-- The place of a level in the order CLEAR, WATCH, WARN, ALARM (R165). -/
def Level.rank : Level → Nat
  | .clear => 0
  | .watch => 1
  | .warn => 2
  | .alarm => 3

/-- One step lower (R171). -/
def Level.fall : Level → Level
  | .alarm => .warn
  | .warn => .watch
  | .watch => .clear
  | .clear => .clear

/-- The greater of two levels. -/
def Level.max (a b : Level) : Level := if a.rank < b.rank then b else a

/-- The lead of an arrival time, 0 when it lies in the past (R167). -/
def leadOf (a yard : Tick) : Nat := (tickDiff a yard).toNat

/-- A front is strong (R167). -/
def Front.strong (p : Profile) (f : Front) : Bool :=
  (match f.dustI with | some d => 2 ≤ d.val | none => true)
    || (match f.peakI with | some v => p.strongGust ≤ v | none => false)

/-- The origin's station lies within the watch distance of a zone's centre (R167). -/
def nearZone (p : Profile) (f : Front) (z : Fin 8) : Bool :=
  match f.track.head?, p.zones[z.val]? with
  | some o, some c => distance (p.position o.station) (c.cx, c.cy) ≤ p.watchDistance
  | _, _ => false

/-- The front level that a slot gives for a zone; none for a FREE slot (R167). -/
def frontLevel (p : Profile) (yard : Tick) (z : Fin 8) (f : Front) : Option Level :=
  if f.state = .free then none
  else
    match f.arrivals.getD z.val .none with
    | .time a =>
      if f.state = .decaying then some .watch
      else if leadOf a yard ≤ p.alarmLeadT ∧ f.strong p then some .alarm
      else if leadOf a yard ≤ p.warnLeadT then some .warn
      else some .watch
    | _ => if f.state = .forming ∧ nearZone p f z then some .watch else some .clear

/-- The maximum of the front levels of all slots (R168). -/
def frontsLevel (p : Profile) (yard : Tick) (z : Fin 8) (slots : List Front) : Level :=
  slots.foldl (fun m f => m.max ((frontLevel p yard z f).getD .clear)) .clear

/-- The lowest-numbered slot whose front level is `l`, as a driving source (R168). -/
def sourceOf (p : Profile) (yard : Tick) (z : Fin 8) (l : Level) (slots : List Front) : Source :=
  match slots.zipIdx.find? (fun (f, _) => frontLevel p yard z f == some l) with
  | some (f, i) => .front i f.id
  | none => .none

/-- The computed level and the computed source of a zone (R168). -/
def State.computed (s : State) (z : Fin 8) : Level × Source :=
  if s.detector.localOverride then (.alarm, .ownGust)
  else
    let l := frontsLevel s.profile s.time.yardClock z s.table.slots
    (l, if l = .clear then .none else sourceOf s.profile s.time.yardClock z l s.table.slots)

/-! ## Raising and lowering (R169 to R171) -/

/-- A zone record after an evaluation (R169, R170). -/
def applyLevel (holdT : Nat) (c : Level × Source) (r : Zone) : Zone :=
  if r.level.rank < c.1.rank then { r with level := c.1, hold := none, ack := false, source := c.2 }
  else if c.1.rank < r.level.rank then { r with hold := some (r.hold.getD holdT) }
  else { r with hold := none, source := c.2 }

/-- The evaluation raises a zone to WARN or ALARM (R169). -/
def raisesLoud (c : Level × Source) (r : Zone) : Bool := decide (r.level.rank < c.1.rank) && decide (2 ≤ c.1.rank)

/-- A zone record after the expiry of its hold timer (R171, log 40). -/
def fallZone (holdT : Nat) (c : Level × Source) (r : Zone) : Zone :=
  { r with
    level := r.level.fall
    ack := false
    hold := if c.1.rank < r.level.fall.rank then some holdT else none
    source := if c.1 = r.level.fall then c.2 else r.source }

/-! ## Patterns (R175 to R177) -/

/-- The period P of a pattern, in ticks (R175). -/
def Pattern.period : Pattern → Nat
  | .off => 0
  | .watch => 200
  | .warn => 100
  | .alarm => 40
  | .fault => 300

/-- The on-time D of a pattern, in ticks (R175). -/
def Pattern.onTime : Pattern → Nat
  | .off => 0
  | .watch => 30
  | .warn => 50
  | .alarm => 30
  | .fault => 150

/-- The wanted pattern of an assigned zone (R175). -/
def Zone.wanted (z : Zone) : Pattern :=
  match z.level with
  | .alarm => .alarm
  | .warn => .warn
  | .watch => if z.degraded then .fault else .watch
  | .clear => if z.degraded then .fault else .off

/-- The wanted pattern of a channel (R175). -/
def wantedAt (zones : List Zone) (k : Nat) : Pattern :=
  match zones[k]? with
  | some z => z.wanted
  | none => .off

/-- A generator is handed a pattern (R177). -/
def Gen.hand (g : Gen) (p : Pattern) : Gen :=
  if g.running then { g with preload := p, handed := p }
  else if p = .off then { g with handed := .off }
  else ⟨true, 0, p, p, p⟩

/-- A generator is handed its wanted pattern if that differs from the last one handed (R175). -/
def Gen.refresh (g : Gen) (p : Pattern) : Gen := if p = g.handed then g else g.hand p

/-- The generators after a change of zone records (R175). -/
def refreshGens (zones : List Zone) (gens : List Gen) : List Gen :=
  gens.mapIdx (fun k g => g.refresh (wantedAt zones k))

/-- The generators when the outputs resume at a wake: each as if it were stopped (R181). -/
def resumeGens (zones : List Zone) (gens : List Gen) : List Gen :=
  gens.mapIdx (fun k _ => Gen.stopped.hand (wantedAt zones k))

/-- The end of a period (R176). -/
def Gen.periodEnd (g : Gen) : Gen :=
  { g with counter := 0, shown := g.preload, running := g.preload != .off }

/-- One tick of a generator (R176); at P the counter waits for the period end (log 7). -/
def Gen.tick (g : Gen) : Gen :=
  { g with counter := if g.running then min g.shown.period (g.counter + 1) else g.counter }

/-- The zone records change, and with them, except in LULL, the patterns handed (R175, R181). -/
def withZones (zones : List Zone) (s : State) : State :=
  { s with
    warn := { s.warn with
      zones := zones
      gens := if s.mode = .lull then s.warn.gens else refreshGens zones s.warn.gens } }

/-! ## Evaluations (R166) -/

/-- An evaluation (R166, R169, R170). -/
def evaluate (s : State) : State :=
  raiseIf (s.warn.zones.any (fun r => raisesLoud (s.computed r.zone) r)) .zoneRaised
    (withZones (s.warn.zones.map (fun r => applyLevel s.profile.holdT (s.computed r.zone) r)) s)

/-- An evaluation, if it happens. -/
def evaluateIf (b : Bool) (s : State) : State := if b then evaluate s else s

/-- The evaluation that the expiry of channel `k`'s hold timer makes (R171). -/
def evaluateAtExpiry (k : Nat) (s : State) : State :=
  raiseIf (s.warn.zones.zipIdx.any (fun (r, i) => i != k && raisesLoud (s.computed r.zone) r)) .zoneRaised
    (withZones (s.warn.zones.mapIdx (fun i r =>
      if i = k then fallZone s.profile.holdT (s.computed r.zone) r
      else applyLevel s.profile.holdT (s.computed r.zone) r)) s)

/-! ## DEGRADED (R173, R174) -/

/-- DEGRADED on every owned zone. -/
def setDegraded (b : Bool) (zones : List Zone) : List Zone := zones.map (fun z => { z with degraded := b })

/-- The zone records when a cycle close hands over LINE LOST (R173, R174). -/
def zonesAfterClose (lost pendingAgreed : Bool) (zones : List Zone) : List Zone :=
  if lost then setDegraded true zones else if pendingAgreed then setDegraded false zones else zones

/-- The Roster hands LINE LOST to the Warning Unit (R173, R174). -/
def takeClose (lost : Bool) (s : State) : State :=
  withZones (zonesAfterClose lost s.warn.pendingAgreed s.warn.zones)
    { s with warn := { s.warn with lineLost := lost, pendingAgreed := false } }

/-- The zone records when a judged check hands over its outcome (R173, R174). -/
def zonesAfterCheck (st : AgreeState) (run : Byte) (clearNow : Bool) (zones : List Zone) : List Zone :=
  if 3 ≤ run.toNat then setDegraded true zones
  else if st = .agreed ∧ clearNow then setDegraded false zones
  else zones

/-- The Agreement Unit hands the outcome of a judged check to the Warning Unit, after the close of the same MARK or
before it (R173, R174). -/
def takeCheck (afterClose : Bool) (st : AgreeState) (run : Byte) (s : State) : State :=
  withZones (zonesAfterCheck st run (afterClose && !s.warn.lineLost) s.warn.zones)
    { s with warn := { s.warn with
        runCount := run
        agree := st
        pendingAgreed := s.warn.pendingAgreed || (st == .agreed && !afterClose) } }

end Sys2Proof.Machine
end

