-- ==== Sys2Proof/Machine/Timebase.lean ====
section
/-! DEFINITION. The Timebase (R151 to R164): adoption, LULL entry and wake, the local tick, and the commands of the
time family; with them the Warning Unit's timed commands, which end in the test of LULL entry. -/

namespace Sys2Proof.Machine

/-! ## Adoption (R153) -/

/-- The adoption of `t` is counted as a clock step (R153). -/
def State.clockStep (s : State) (t : Tick) : Bool :=
  !s.time.firstAdoption && decide (s.profile.stepTolerance < (tickDiff t s.time.yardClock).natAbs)

/-- The Timebase adopts a MARK's yard time (R153). -/
def adopt (t : Tick) (s : State) : State :=
  { s with
    time := { s.time with yardClock := t, firstAdoption := false }
    counters := { s.counters with
      clockSteps := if s.clockStep t then satInc s.counters.clockSteps else s.counters.clockSteps } }

/-! ## Delays of the open timer (R98, R99, R155) -/

/-- gap + own number × stagger (R98). -/
def State.cycleEndDelay (s : State) : Nat := s.profile.gapMs s.preference + s.own.val * s.profile.staggerMs

/-- gap + (own number + 1) × stagger × 2 (R99, R100). -/
def State.backoffDelay (s : State) : Nat := s.backoffGapMs + (s.own.val + 1) * s.profile.staggerMs * 2

/-! ## LULL entry (R156, R157) -/

/-- A free value `x` brought into the range from `lo` up to, not including, `hi`; an empty range gives `lo`. -/
def inRange (lo hi x : Nat) : Nat := if lo < hi then lo + x % (hi - lo) else lo

/-- The capture units since the last tick at which the last accepted edge came, 0 where it came before that tick. -/
def State.edgeOffset (s : State) : Nat :=
  match s.sensor.lastAccepted with
  | some a => if captureDiff a s.time.capture ≤ 101 then captureDiff a s.time.capture else 0
  | none => 0

/-- The capture units since the last tick when a command that no tick times ends (R158): a free value below the units of
a tick, and not before the last accepted edge (log 8). -/
def State.capturePhase (s : State) : Nat := inRange s.edgeOffset 100 (Config.capturePhase s.freeCount)

/-- The ms that an open timer which has counted `k` ticks has run, `b` capture units after the last of them, where it was
started `x` ms (modulo 10) after a tick (R155, log 8). -/
def elapsedMs (k b x : Nat) : Nat := 10 * k + min 9 (b / 10) - x % 10

/-- The remaining ms of the open timer at a LULL entry `b` capture units after the last tick (R155, R157, log 8); a timer
that does not run has none (log 20). -/
def State.remainingMs (b : Nat) (s : State) : Nat :=
  match s.line.openTimer with
  | .ms delay k => if s.line.openFresh then delay else delay - elapsedMs k b (Config.startPhase s.freeCount)
  | _ => 0

/-- The wake count (R159). -/
def wakeCount (p : Profile) (rate : Nat) : Nat := (p.quietGapMs - p.guardMs) * rate / 32000

/-- Entry into LULL `b` capture units after the last tick (R157): the capture clock passes to the lull clock with them
(R158). -/
def enterLull (b : Nat) (s : State) : State :=
  { s with
    mode := .lull
    time := { s.time with
      calibLeft := none
      wake := some ⟨wakeCount s.profile s.time.rate, 0, 0⟩
      acc := 0
      capAcc := 0
      capture := s.time.capture + BitVec.ofNat 32 b }
    line := { s.line with rx := .off, openTimer := .lull (s.remainingMs b * s.time.rate / 500), openFresh := false }
    warn := { s.warn with gens := s.warn.gens.map (fun _ => Gen.stopped) }
    freeCount := s.freeCount + 1 }

/-- The test of LULL entry that ends every command which changes one of its conditions (R156), `b` capture units after
the last tick. -/
def finishAt (b : Nat) (s : State) : State :=
  if s.lullReady then enterLull b s else { s with line := { s.line with openFresh := false } }

/-- The test of LULL entry at the end of a command that no tick times (R156, log 8). -/
def finish (s : State) : State := finishAt s.capturePhase s

/-- The test of LULL entry at the end of a command that comes at a tick (R156, log 8). -/
def finishAtTick (s : State) : State := finishAt s.edgeOffset s

/-! ## Wake (R160) -/

/-- The lull periods until the next local tick (R158). -/
def Timebase.periodsToTick (t : Timebase) : Nat := (t.rate - t.acc + 49) / 50

/-- The lull periods that remain to a wake timer (R159). -/
def WakeTimer.left (w : WakeTimer) : Nat := w.target * 64 - (w.units * 64 + w.sub)

/-- The open timer at a wake `d` lull periods after the last tick (R155, R160). -/
def OpenTimer.awakened (o : OpenTimer) (rate d : Nat) : OpenTimer :=
  match o with
  | .lull p => .ms ((p - d) * 500 / rate) 0
  | o => o

/-- A wake `d` lull periods after the last tick, at the expiry of the open timer or not (R160, R161). -/
def wakeAfter (d : Nat) (atOpen : Bool) (s : State) : State :=
  { s with
    mode := .active
    time := { s.time with
      wake := none
      acc := 0
      capAcc := 0
      capture := s.time.capture + BitVec.ofNat 32 ((s.time.capAcc + 5000 * d) / s.time.rate) }
    line := { s.line with
      wakePending := true
      rx := .quietWait false
      openTimer := if atOpen then .held else s.line.openTimer.awakened s.time.rate d }
    warn := { s.warn with gens := resumeGens s.warn.zones s.warn.gens } }

/-- The lull periods that remain to the open timer's expiry in LULL. -/
def OpenTimer.periodsLeft : OpenTimer → Nat
  | .lull p => p
  | _ => 0

/-- The lull periods from the last tick to the expiry of the wake timer. -/
def State.wakeLeft (s : State) : Nat :=
  match s.time.wake with
  | some w => w.left
  | none => 0

/-- The least number of lull periods since the last tick at which the capture clock has counted `units` since it (R158). -/
def Timebase.periodsToUnits (t : Timebase) (units : Nat) : Nat := (units * t.rate - t.capAcc + 4999) / 5000

/-- More than the lull periods since the last tick at a wake by a panel command: fewer than reach the next tick, and no
more than reach the expiry of either timer that would have woken the station (log 9). -/
def State.wakeBound (s : State) : Nat :=
  min s.time.periodsToTick (min (s.wakeLeft + 1) (s.line.openTimer.periodsLeft + 1))

/-- The lull periods since the last tick at a wake by a panel command, from a free value `x`: below their bound, and not
before the last accepted edge (log 9). -/
def State.wakeExtra (s : State) (x : Nat) : Nat :=
  inRange (min (s.time.periodsToUnits s.edgeOffset) (s.wakeBound - 1)) s.wakeBound x

/-- A wake by a panel command (R160). -/
def wakeByPanel (s : State) : State :=
  wakeAfter (s.wakeExtra (Config.elapsedPeriods s.freeCount)) false { s with freeCount := s.freeCount + 1 }

/-- The wake by a panel command, if the station is in LULL (R160). -/
def wakeIfLull (s : State) : State := if s.mode = .lull ∧ !s.resetHeld then wakeByPanel s else s

/-! ## The local tick (R151, R152, R158) -/

/-- Both clocks advance (R151, R152). -/
def Timebase.advance (t : Timebase) : Timebase :=
  { t with localTick := t.localTick + 1, yardClock := t.yardClock + 1 }

/-- The calibration window counts a tick, or starts (R162). -/
def tickWindow : Option Nat → Option Nat
  | none => some 50
  | some k => some (k - 1)

/-- The open timer's ticks since it started (log 8). -/
def OpenTimer.tick : OpenTimer → OpenTimer
  | .ms delay k => .ms delay (k + 1)
  | o => o

/-- The open timer after `n` lull periods; at 0 it waits for its expiry (R158, log 7). -/
def OpenTimer.lullTick (n : Nat) : OpenTimer → OpenTimer
  | .lull p => .lull (p - n)
  | o => o

/-- The wake timer after `n` lull periods; at its count it waits for its expiry (R159, log 7). -/
def WakeTimer.tick (n : Nat) (w : WakeTimer) : WakeTimer :=
  if w.target ≤ w.units + (w.sub + n) / 64 then ⟨w.target, w.target, 0⟩
  else ⟨w.target, w.units + (w.sub + n) / 64, (w.sub + n) % 64⟩

/-- The timers that count local ticks in every state from LISTENING onward (R62, R75, R170). -/
def tickTimers (s : State) : State :=
  { s with
    sensor := { s.sensor with periodLeft := countDown s.sensor.periodLeft }
    detector := { s.detector with refractoryLeft := countDown s.detector.refractoryLeft }
    warn := { s.warn with
      zones := s.warn.zones.map (fun z => { z with hold := countDown z.hold })
      secondDue := s.time.yardClock.toNat % 100 == 0 } }

/-- A tick while the loader is in LOADING or CONFIG FAULT: the clocks alone (R151, R203). -/
def idleTick (s : State) : State :=
  { s with time := { s.time.advance with capture := s.time.capture + 100 } }

/-- A tick of the main clock in LISTENING, ACTIVE, RESYNC or MUTE. -/
def awakeTick (s : State) : State :=
  tickTimers
    { s with
      time := { s.time.advance with
        capture := s.time.capture + 100
        calibLeft := tickWindow s.time.calibLeft }
      line := { s.line with
        listenLeft := countDown s.line.listenLeft
        openTimer := s.line.openTimer.tick }
      warn := { s.warn with gens := s.warn.gens.map Gen.tick } }

/-- A tick of the lull clock, after the lull periods that reach it (R158). -/
def lullTick (s : State) : State :=
  tickTimers
    { s with
      time := { s.time.advance with
        acc := s.time.acc + 50 * s.time.periodsToTick - s.time.rate
        capture := s.time.capture
          + BitVec.ofNat 32 ((s.time.capAcc + 5000 * s.time.periodsToTick) / s.time.rate)
        capAcc := (s.time.capAcc + 5000 * s.time.periodsToTick) % s.time.rate
        wake := s.time.wake.map (WakeTimer.tick s.time.periodsToTick) }
      line := { s.line with openTimer := s.line.openTimer.lullTick s.time.periodsToTick } }

/-- LOCAL_TICK (R151). -/
def execLocalTick (s : State) : Host.Outcome State Fault Refusal :=
  .next (if s.resetHeld then s
    else if s.mode.awake then awakeTick s
    else if s.mode = .lull then lullTick s
    else idleTick s)

/-! ## Commands of the Timebase -/

/-- A count that is accepted (R162). -/
def countAccepted (n : Nat) : Bool := decide (12288 ≤ n) && decide (n ≤ 20480)

/-- The end of a calibration window (R162). The next one starts at once (log 26). -/
def judgeWindow (n : Nat) (s : State) : State :=
  { s with
    time := { s.time with
      rate := if countAccepted n then n else s.time.rate
      lullGood := countAccepted n
      calibLeft := some 50 }
    counters := { s.counters with
      calibrationRejects :=
        if countAccepted n then s.counters.calibrationRejects else satInc s.counters.calibrationRejects } }

/-- CALIBRATION_WINDOW_END (R162). -/
def execCalibrationWindowEnd (count : Nat) (s : State) : Host.Outcome State Fault Refusal :=
  .next (if s.awake ∧ s.time.calibLeft = some 0 then finishAtTick (judgeWindow count s) else s)

/-- The wake timer expires before the next tick, or on the lull period that also reaches it: the book does not order the
two, and the model lets the expiry come first, which discards that tick with the accumulator's residue (R158, R159, R160;
log 7). -/
def State.wakeDue (s : State) : Bool :=
  !s.resetHeld && s.mode == .lull
    && (match s.time.wake with | some w => decide (w.left ≤ s.time.periodsToTick) | none => false)

/-- WAKE_TIMER_EXPIRY (R160). -/
def execWakeTimerExpiry (s : State) : Host.Outcome State Fault Refusal :=
  .next (if s.wakeDue then wakeAfter s.wakeLeft false s else s)

/-! ## Timed commands of the Warning Unit -/

/-- Some owned zone is above CLEAR (R166). -/
def Warn.anyWarning (w : Warn) : Bool := w.zones.any (fun z => z.level != .clear)

/-- PER_SECOND_EVALUATION (R166). The model lets the command wait until the next tick and judges "above CLEAR" when it
is taken, not at the tick that made it due (log 7). -/
def execPerSecondEvaluation (s : State) : Host.Outcome State Fault Refusal :=
  .next (if s.runs ∧ s.warn.secondDue ∧ s.warn.anyWarning then
      evaluate { s with warn := { s.warn with secondDue := false } }
    else s)

/-- The hold timer of channel `k` has counted down (R171). -/
def State.holdDue (s : State) (k : Nat) : Bool :=
  s.runs && (match s.warn.zones[k]? with | some z => z.hold == some 0 | none => false)

/-- HOLD_EXPIRY (R171). -/
def execHoldExpiry (channel : Fin 4) (s : State) : Host.Outcome State Fault Refusal :=
  .next (if s.holdDue channel.val then finishAtTick (evaluateAtExpiry channel.val s) else s)

/-- The pattern counter of channel `k` has reached P (R176). -/
def State.patternDue (s : State) (k : Nat) : Bool :=
  s.runs && (match s.warn.gens[k]? with | some g => g.running && decide (g.shown.period ≤ g.counter) | none => false)

/-- PATTERN_PERIOD_END (R176). -/
def execPatternPeriodEnd (channel : Fin 4) (s : State) : Host.Outcome State Fault Refusal :=
  .next (if s.patternDue channel.val then
      { s with warn := { s.warn with gens := s.warn.gens.modify channel.val Gen.periodEnd } }
    else s)

end Sys2Proof.Machine
end

