-- ==== Sys2Proof/Machine/Roster.lean ====
section
/-! DEFINITION. The Roster (R115 to R127): hearing a station, recording a PRESENCE, the cycle close and LINE LOST. -/

namespace Sys2Proof.Machine

/-- A station is marked heard (R116). -/
def Roster.hear (i : Station) (r : Roster) : Roster :=
  { r with entries := r.entries.modify i.val (fun e => { e with heard := true }) }

/-- An entry after a PRESENCE taken in cycle `cycle` by a station whose profile digest is `own` (R117, R118). -/
def RosterEntry.record (p : Presence) (cycle own : Word16) (e : RosterEntry) : RosterEntry :=
  { e with
    last := some p
    takenIn := some cycle
    profile := if p.profileDigest = own then .same else .mismatch }

/-- A PRESENCE is recorded (R117). -/
def Roster.record (i : Station) (p : Presence) (cycle own : Word16) (r : Roster) : Roster :=
  { r with entries := r.entries.modify i.val (RosterEntry.record p cycle own) }

/-- A frame of source `i` is handed to the Roster (R116). -/
def hear (i : Station) (s : State) : State := { s with roster := s.roster.hear i }

/-- A PRESENCE of source `i` is handed to the Roster (R117). -/
def recordPresence (i : Station) (p : Presence) (s : State) : State :=
  { s with roster := s.roster.record i p s.line.cycle s.profileDigest }

/-! ## Cycle close (R119 to R122, R125) -/

/-- The state of a station with a new unheard count at a counting close (R121). -/
def stateOfCount (n : Byte) : RosterState :=
  if n.toNat ≤ 2 then .present else if n.toNat ≤ 9 then .silent else .absent

/-- The own entry after a close (R119). -/
def RosterEntry.closedOwn (e : RosterEntry) : RosterEntry := { e with state := .present, unheard := 0, heard := false }

/-- Another entry after a counting close (R121). -/
def RosterEntry.closedCounting (e : RosterEntry) : RosterEntry :=
  if e.heard then { e with state := .present, unheard := 0, heard := false }
  else
    { e with
      unheard := satIncByte e.unheard
      state := if e.state = .unknown then .unknown else stateOfCount (satIncByte e.unheard)
      heard := false }

/-- Another entry after an opening close (R122). -/
def RosterEntry.closedOpening (e : RosterEntry) : RosterEntry :=
  if e.heard then { e with state := .present, unheard := 0, heard := false } else { e with heard := false }

/-- The entries after a close on station `own` (R119 to R122). -/
def closeEntries (own : Station) (counting : Bool) (entries : List RosterEntry) : List RosterEntry :=
  entries.mapIdx (fun i e =>
    if i = own.val then e.closedOwn else if counting then e.closedCounting else e.closedOpening)

/-- The heard flag of some entry other than the own is set (R125). -/
def othersHeard (own : Station) (entries : List RosterEntry) : Bool :=
  entries.zipIdx.any (fun (e, i) => i != own.val && e.heard)

/-- The quiet close run after a counting close (R125). -/
def quietRunAfter (own : Station) (r : Roster) : Nat :=
  if othersHeard own r.entries then 0 else min 3 (r.quietRun + 1)

/-- LINE LOST after a counting close (R125). -/
def lineLostAfter (own : Station) (r : Roster) : Bool :=
  !othersHeard own r.entries && (r.lineLost || quietRunAfter own r == 3)

/-- The Roster after a close (R120 to R122, R125). -/
def Roster.close (own : Station) (r : Roster) : Roster where
  entries := closeEntries own r.cycleOpen r.entries
  cycleOpen := true
  quietRun := if r.cycleOpen then quietRunAfter own r else r.quietRun
  lineLost := if r.cycleOpen then lineLostAfter own r else r.lineLost

/-- The cycle close: the entries, LINE LOST and its event, and what the Warning Unit is handed (R120, R125, R173). -/
def closeCycle (s : State) : State :=
  takeClose (s.roster.close s.own).lineLost
    (raiseIf (!s.roster.lineLost && (s.roster.close s.own).lineLost) .lineLost
      { s with roster := s.roster.close s.own })

end Sys2Proof.Machine
end

