-- ==== Sys2Proof/Machine/Agreement.lean ====
section
/-! DEFINITION. The Agreement Unit (R128 to R150): the digest history, the check, staging, install, the responder and
its snapshot. -/

namespace Sys2Proof.Machine

/-! ## State changes and history (R129, R130) -/

/-- A pair is stored in the digest history (R130). -/
def storePair (h : List (Word16 × Word16)) (label digest : Word16) : List (Word16 × Word16) :=
  let others := h.filter (fun x => x.1 != label)
  (if others.length < 4 then others else others.drop 1) ++ [(label, digest)]

/-- The agreement state becomes DIVERGED, with the effects of entering it when it was not (R129). -/
def becomeDiverged (s : State) : State :=
  if s.agree.state = .diverged then s
  else
    offer .diverged none none .none
      (raiseEvent .diverged { s with agree := { s.agree with state := .diverged, installed := false } })

/-! ## The check (R131 to R134) -/

/-- The qualifying PRESENCE frames of a check that closes cycle `c`: station and digest, in station order (R131). -/
def qualifying (c : Word16) (entries : List RosterEntry) : List (Station × Word16) :=
  entries.zipIdx.filterMap (fun (e, i) =>
    match e.last with
    | some p =>
      if e.takenIn = some c ∧ p.fused = some (c - 1) then some (Fin.ofNat 32 i, p.digest.getD 0) else none
    | none => none)

/-- The stations that reported a digest (R132). -/
def groupOf (q : List (Station × Word16)) (d : Word16) : List Station :=
  (q.filter (fun x => x.2 == d)).map (·.1)

/-- The digest of the larger group, the earlier one when equal. -/
def largerGroup (q : List (Station × Word16)) (best : Option Word16) (d : Word16) : Option Word16 :=
  match best with
  | none => some d
  | some b => if (groupOf q b).length < (groupOf q d).length then some d else some b

/-- The plurality digest: of the greatest group, the one that holds the lowest station number on a tie; none when no
PRESENCE qualifies (R132). -/
def plurality (q : List (Station × Word16)) : Option Word16 := q.foldl (fun b x => largerGroup q b x.2) none

/-- The state a judged check leads to (R133): DIVERGED at an overrun, by the own history otherwise. -/
def judgedState (overrun : Bool) (own : Option Word16) (d : Word16) (st : AgreeState) : AgreeState :=
  if overrun then .diverged
  else
    match own with
    | some x => if x = d then .agreed else .diverged
    | none => st

/-- The agreement state becomes `st` (R128, R129). -/
def becomeState (st : AgreeState) (s : State) : State :=
  if st = .diverged then becomeDiverged s else { s with agree := { s.agree with state := st } }

/-- The run count after a judged check that leaves the state `st` (R134). -/
def runAfter (st : AgreeState) (run : Byte) : Byte := if st = .agreed then 0 else satIncByte run

/-- A judged check with its group, plurality digest and outcome (R132 to R135), before it is handed over. -/
def applyJudgement (group : List Station) (st : AgreeState) (s : State) : State :=
  let s1 := becomeState st s
  { s1 with agree := { s1.agree with group := group, runCount := runAfter st s1.agree.runCount, installed := false } }

/-- The check at a MARK that closes cycle `c` (R131 to R135), taken after the close of the same MARK or before it. -/
def runCheck (c : Word16) (overrun afterClose : Bool) (s : State) : State :=
  match plurality (qualifying c s.roster.entries) with
  | none => s
  | some d =>
    let st := judgedState overrun (historyOf s.agree.history (c - 1)) d s.agree.state
    let s1 := applyJudgement (groupOf (qualifying c s.roster.entries) d) st s
    takeCheck afterClose st s1.agree.runCount s1

/-! ## Staging (R141 to R145) -/

/-- The staging record cleared (R143, R146). -/
def Staging.cleared (discarded : Bool) : Staging := { Staging.empty with discarded := discarded }

/-- A staging is discarded (R143). -/
def discardStaging (r : DiscardReason) (s : State) : State :=
  offer .transferDiscarded (some s.agree.staging.source) (some .transfer) (.discard r)
    { s with
      agree := { s.agree with staging := Staging.cleared true }
      counters := { s.counters with transfersDiscarded := satInc s.counters.transfersDiscarded } }

/-- A TRANSFER frame is ignored (R141). -/
def ignoreTransfer (s : State) : State :=
  { s with counters := { s.counters with transfersIgnored := satInc s.counters.transfersIgnored } }

/-- The staging that a frame opens (R142). -/
def Staging.opened (src : Station) (t : TransferBody) : Staging where
  active := true
  source := src
  label := t.label
  digest := t.digest
  nextId := t.nextId
  expected := t.count
  received := []
  noneReceived := false
  residue := t.count
  staged := []
  held := false
  discarded := false

/-- A frame of another snapshot than the record's (R143). -/
def Staging.differs (g : Staging) (src : Station) (t : TransferBody) : Bool :=
  g.source != src || g.label != t.label || g.digest != t.digest || g.nextId != t.nextId || g.expected != t.count

/-- The reason for which a frame added to the staging discards it, if any (R143). -/
def Staging.fault (g : Staging) (src : Station) (t : TransferBody) : Option DiscardReason :=
  if g.differs src t then some .mismatch
  else
    match t.slot with
    | some (i, _) =>
      if g.residue = 0 then some .mismatch else if g.received.contains i then some .repeated else none
    | none => if g.noneReceived then some .repeated else none

/-- An accepted frame (R143). -/
def Staging.accept (g : Staging) (t : TransferBody) : Staging :=
  match t.slot with
  | some (i, f) =>
    { g with received := g.received ++ [i], staged := g.staged ++ [(i, f)], residue := g.residue - 1 }
  | none => { g with noneReceived := true }

/-- A frame is added to the active staging (R143). -/
def addToStaging (src : Station) (t : TransferBody) (s : State) : State :=
  match s.agree.staging.fault src t with
  | some r => discardStaging r s
  | none => { s with agree := { s.agree with staging := s.agree.staging.accept t } }

/-- Cases 1 to 4 of R141: the frame is ignored. -/
def State.ignores (s : State) (src : Station) (t : TransferBody) : Bool :=
  s.agree.state == .agreed
    || (s.agree.installed || s.agree.staging.held)
    || s.agree.staging.discarded
    || (!s.agree.staging.active && (!s.agree.group.contains src || t.label != s.line.cycle - 1))

/-- A TRANSFER frame taken in ACTIVE or MUTE (R141). -/
def takeTransfer (src : Station) (t : TransferBody) (s : State) : State :=
  if s.ignores src t then ignoreTransfer s
  else if s.agree.staging.active then addToStaging src t s
  else addToStaging src t { s with agree := { s.agree with staging := Staging.opened src t } }

/-- The slots of the staged table, derived fields empty (R144, R14). -/
def Staging.slots (g : Staging) (zoneCount : Nat) : List Front :=
  (List.finRange 8).map (fun i =>
    match g.staged.find? (fun x => x.1 == i) with
    | some (_, f) => f
    | none => Front.empty zoneCount)

/-! ## Install (R14, R61, R146) -/

/-- The recomputation of one slot of the installed table (R14). -/
def recomputeSlot (p : Profile) (f : Front) : Front := if f.occupied then (recompute p f).1 else f

/-- The reports of one slot's recomputation (R55, R61). -/
def reportSlot (p : Profile) (label : Word16) (s : State) (x : Front × Nat) : State :=
  if x.1.occupied then reportAll ⟨x.1.id, x.2, none, label⟩ (recompute p x.1).2 s else s

/-- The table that a staging installs (R14). -/
def Staging.table (p : Profile) (g : Staging) : FrontTable where
  slots := (g.slots p.zoneCount).map (recomputeSlot p)
  nextId := g.nextId
  fusedThrough := some g.label

/-- The install of a complete staging (R146). -/
def install (s : State) : State :=
  let g := s.agree.staging
  let s1 := { s with
    table := g.table s.profile
    fusion := { s.fusion with fusing := none, waiting := none, stopping := false } }
  let s2 := (g.slots s.profile.zoneCount).zipIdx.foldl (reportSlot s.profile g.label) s1
  let s3 := { s2 with
    agree := { s2.agree with
      history := storePair s2.agree.history g.label g.digest
      installed := true
      staging := Staging.cleared g.discarded }
    counters := { s2.counters with transfersInstalled := satInc s2.counters.transfersInstalled } }
  evaluate (offer .transferInstalled (some g.source) (some .transfer) (.count g.expected) s3)

/-- Two occupied slots carry the same front id (R144). -/
def idsClash (slots : List Front) : Bool := !(occupiedIds slots).Nodup

/-- A staging whose opportunity ends is settled (R144, R145). -/
def settleActive (s : State) : State :=
  let g := s.agree.staging
  if 0 < g.residue then discardStaging .incomplete s
  else if idsClash (g.slots s.profile.zoneCount) then discardStaging .idClash s
  else if tableDigest (g.slots s.profile.zoneCount) g.nextId ≠ g.digest then discardStaging .digest s
  else if s.fusion.fusing.isSome then { s with agree := { s.agree with staging := { g with held := true } } }
  else install s

/-- The discarded mark is cleared (R142). -/
def clearDiscarded (s : State) : State :=
  { s with agree := { s.agree with staging := { s.agree.staging with discarded := false } } }

/-- The end of an opportunity, for the Agreement Unit (R142, R144). -/
def settleStaging (s : State) : State :=
  clearDiscarded (if s.agree.staging.active && !s.agree.staging.held then settleActive s else s)

/-- A MARK, for the staging (R142, R145). -/
def staleStaging (s : State) : State :=
  clearDiscarded (if s.agree.staging.active then discardStaging .stale s else s)

/-! ## The responder (R137 to R139) -/

/-- The three conditions of R137. -/
def meetsResponder (group : List Station) (e : RosterEntry) (i : Nat) : Bool :=
  e.state == .present && group.any (fun g => g.val == i) && e.last.all (fun p => !p.needTable)

/-- The responder's number, if any (R137). -/
def State.responder (s : State) : Option Nat :=
  (s.roster.entries.zipIdx.find? (fun (e, i) => meetsResponder s.agree.group e i)).map (·.2)

/-- A request stands in the current or the previous cycle (R124, R138). -/
def State.requestStands (s : State) : Bool :=
  s.roster.entries.any (fun e =>
    e.last.any (·.needTable) && (e.takenIn == some s.line.cycle || e.takenIn == some (s.line.cycle - 1)))

/-- The station sends a transfer in the plan that is fixed now (R137, R138). -/
def State.sendsTransfer (s : State) : Bool :=
  s.responder == some s.own.val && s.requestStands && s.agree.state == .agreed
    && s.table.fusedThrough == some (s.line.cycle - 1) && s.fusion.fusing.isNone && !s.agree.staging.held

/-- The number of occupied slots. -/
def FrontTable.occupiedCount (t : FrontTable) : Nat := (t.slots.filter Front.occupied).length

/-- The header fields of the snapshot with the slot of one frame (R139). -/
def State.snapshotFrame (s : State) (slot : Option (Fin 8 × Front)) : TransferBody where
  label := s.table.fusedThrough.getD 0
  digest := (historyOf s.agree.history (s.table.fusedThrough.getD 0)).getD 0
  nextId := s.table.nextId
  count := s.table.occupiedCount
  slot := slot

/-- The snapshot: one frame for each occupied slot, or one frame with slot none (R139). -/
def State.snapshot (s : State) : List TransferBody :=
  if s.table.occupiedCount = 0 then [s.snapshotFrame none]
  else
    (s.table.slots.zipIdx.filter (fun (f, _) => f.occupied)).map (fun (f, i) =>
      s.snapshotFrame (some (Fin.ofNat 8 i, f)))

/-- The TRANSFER frames handed over for a plan (R138). -/
def State.transferFrames (s : State) : List TransferBody := if s.sendsTransfer then s.snapshot else []

end Sys2Proof.Machine
end

