-- ==== Sys2Proof/Machine/Fusion.lean ====
section
/-! DEFINITION. The Fusion Engine (R20 to R42): the labels of the Sighting Queue, the sighting step and the closing step,
and the commands SIGHTING_STEP_END and CLOSING_STEP_END. -/

namespace Sys2Proof.Machine

/-! ## Labels (R20 to R25) -/

/-- The most sightings of one label (R20). -/
def labelLimit : Nat := 32

/-- A sighting is added to the OPEN label, or refused (R21, R22). -/
def addSighting (g : Sighting) (s : State) : State :=
  match s.fusion.openLabel with
  | none => s
  | some l =>
    if l.sightings.length < labelLimit then
      { s with fusion := { s.fusion with openLabel := some { l with sightings := l.sightings ++ [g] } } }
    else { s with counters := { s.counters with sightingsRefused := satInc s.counters.sightingsRefused } }

/-- The OPEN label as a MARK of yard time `now` closes it (R24). -/
def OpenLabel.closed (l : OpenLabel) (now : Tick) : Label := ⟨l.number, now, l.sightings⟩

/-- A MARK now would be a fusion overrun (R40). -/
def Fusion.overruns (f : Fusion) : Bool := f.openLabel.isSome && f.fusing.isSome && f.waiting.isSome

/-- The FUSING label at an overrun: its sightings that no step has begun are discarded (R40). The step under way, which
is the head's whenever a sighting is left (log 28), is completed. -/
def Label.overrun (l : Label) : Label := { l with sightings := l.sightings.take 1 }

/-- The Sighting Queue at a MARK (R23, R24, R40). -/
def Fusion.atMark (f : Fusion) (number : Word16) (now : Tick) : Fusion :=
  match f.openLabel with
  | none => { f with openLabel := some ⟨number, []⟩ }
  | some o =>
    match f.fusing, f.waiting with
    | none, w => { f with openLabel := some ⟨number, []⟩, fusing := some (o.closed now), waiting := w }
    | some l, none => { f with openLabel := some ⟨number, []⟩, fusing := some l, waiting := some (o.closed now) }
    | some l, some _ =>
      { openLabel := some ⟨number, []⟩
        fusing := some l.overrun
        waiting := none
        stopping := f.stopping || !l.sightings.isEmpty }

/-- The Fusion Engine at a MARK; an overrun is counted and makes the station DIVERGED (R23, R24, R40). -/
def markLabels (number : Word16) (now : Tick) (s : State) : State :=
  if s.fusion.overruns then
    becomeDiverged { s with
      fusion := s.fusion.atMark number now
      counters := { s.counters with fusionOverruns := satInc s.counters.fusionOverruns } }
  else { s with fusion := s.fusion.atMark number now }

/-! ## The sighting step (R26 to R36) -/

/-- The report of a bearing test that met an UNSET sector (R32, R55). -/
def reportBearing (g : Sighting) (label : Word16) (s : State) (x : Nat × Byte) : State :=
  report ⟨x.2, x.1, some (g.source, g.sid), label⟩ s ⟨.unsetOperand, 1⟩

/-- A slot takes a record and its reports are made (R34 to R36, R55). -/
def writeSlot (g : Sighting) (label : Word16) (i : Nat) (r : Front × List ExcReport) (s : State) : State :=
  reportAll ⟨r.1.id, i, some (g.source, g.sid), label⟩ r.2
    { s with table := { s.table with slots := s.table.slots.set i r.1 } }

/-- The slots with the chosen one emptied, which a FREE slot already is (R9). -/
def emptiedSlot (p : Profile) (i : Nat) (slots : List Front) : List Front := slots.set i (Front.empty p.zoneCount)

/-- A front is created in slot `i` (R8, R10, R35). -/
def createFront (g : Sighting) (label : Word16) (i : Nat) (s : State) : State :=
  let id := assignId s.table.nextId (emptiedSlot s.profile i s.table.slots)
  writeSlot g label i (recompute s.profile (Front.created id g))
    { s with table := { s.table with nextId := idAfter id } }

/-- An ONSET is applied to the table (R29 to R35): the bearing reports are already made. -/
def placeOnset (g : Sighting) (label : Word16) (now : Tick) (s : State) : State :=
  match bestSlot s.profile g s.table.slots with
  | some i =>
    match s.table.slots[i]? with
    | some f => writeSlot g label i (placeInFront s.profile f g) s
    | none => s
  | none =>
    match slotForNew now s.table.slots with
    | some i => createFront g label i s
    | none => { s with counters := { s.counters with unplaced := satInc s.counters.unplaced } }

/-- An ONSET sighting step (R29 to R35). -/
def applyOnset (g : Sighting) (label : Word16) (now : Tick) (s : State) : State :=
  placeOnset g label now ((unsetBearings s.profile g s.table.slots).foldl (reportBearing g label) s)

/-- A SUBSIDE sighting step (R36). -/
def applySubside (g : Sighting) (label : Word16) (s : State) : State :=
  match matchingSlot g.source (g.onsetRef.getD 0) s.table.slots with
  | some i =>
    match s.table.slots[i]? with
    | some f => writeSlot g label i (subsideFront s.profile g.source (g.onsetRef.getD 0) f) s
    | none => s
  | none => { s with counters := { s.counters with subsideUnmatched := satInc s.counters.subsideUnmatched } }

/-- A sighting step (R26). -/
def applySighting (g : Sighting) (label : Word16) (now : Tick) (s : State) : State :=
  match g.kind with
  | .onset => applyOnset g label now s
  | .subside => applySubside g label s

/-! ## Completion (R37, R38) -/

/-- The WAITING label, if any, becomes FUSING (R38). -/
def startWaiting (s : State) : State :=
  { s with fusion := { s.fusion with fusing := s.fusion.waiting, waiting := none, stopping := false } }

/-- What the Fusion Engine takes up when a fusion has ended: a held install, then the WAITING label (R38). -/
def takeUp (s : State) : State := if s.agree.staging.held then install s else startWaiting s

/-- The table after the aging pass of label `l` (R12), its fused-through label set (R37). -/
def agedTable (p : Profile) (t : FrontTable) (l : Label) : FrontTable :=
  { t with slots := t.slots.map (ageFront p l.now), fusedThrough := some l.number }

/-- The closing step of label `l` (R37). -/
def closingStep (l : Label) (s : State) : State :=
  evaluate { s with
    table := agedTable s.profile s.table l
    agree := { s.agree with
      history := storePair s.agree.history l.number
        (tableDigest (agedTable s.profile s.table l).slots s.table.nextId) }
    fusion := { s.fusion with fusing := none } }

/-- The sighting leaves its label (R26). -/
def dropHead (l : Label) (s : State) : State :=
  { s with fusion := { s.fusion with fusing := some { l with sightings := l.sightings.drop 1 } } }

/-- The end of a sighting step: a fusion that an overrun has stopped ends with it (R40). That what waits is then taken up as
after a closing step is the model's choice (log 49). -/
def endStep (s : State) : State := if s.fusion.stopping then takeUp s else s

/-- A sighting step of the FUSING label `l` with head `g`. -/
def sightingStep (l : Label) (g : Sighting) (s : State) : State :=
  endStep (dropHead l (applySighting g l.number l.now s))

/-- SIGHTING_STEP_END (R26). -/
def execSightingStepEnd (s : State) : Host.Outcome State Fault Refusal :=
  .next (match s.runs, s.fusion.fusing with
    | true, some l =>
      match l.sightings with
      | g :: _ => finish (sightingStep l g s)
      | [] => s
    | _, _ => s)

/-- CLOSING_STEP_END (R37). -/
def execClosingStepEnd (s : State) : Host.Outcome State Fault Refusal :=
  .next (match s.runs, s.fusion.fusing with
    | true, some l => if l.sightings.isEmpty then finish (takeUp (closingStep l s)) else s
    | _, _ => s)

end Sys2Proof.Machine
end

