-- ==== Sys2Proof/Machine/Sensing.lean ====
section
/-! DEFINITION. The Sensor Front End and the Onset Detector (R62 to R84), with the commands of the sensing family. -/

namespace Sys2Proof.Machine

/-! ## Anemometer (R63, R64) -/

/-- An edge at capture time `t` is chatter: less than 20 units after the last accepted edge (R63). -/
def Sensor.chatters (x : Sensor) (t : Tick) : Bool :=
  match x.lastAccepted with
  | some a => decide (captureDiff t a < 20)
  | none => false

/-- The last period after an accepted edge (R63). -/
def Sensor.intervalTo (x : Sensor) (t : Tick) : Option Nat :=
  match x.lastAccepted with
  | some a => if 20000 < captureDiff t a then none else some (captureDiff t a)
  | none => none

/-- An accepted edge (R63). -/
def Sensor.acceptEdge (x : Sensor) (t : Tick) : Sensor :=
  { x with
    edges := x.edges + 1
    firstEdge := some (x.firstEdge.getD t)
    lastEdge := some t
    lastPeriod := x.intervalTo t
    lastAccepted := some t }

/-- A discarded edge (R63). -/
def Sensor.discardEdge (x : Sensor) : Sensor := { x with chatter := x.chatter + 1 }

/-- An edge at capture time `t` (R63). -/
def takeEdge (t : Tick) (s : State) : State :=
  { s with
    sensor := if s.sensor.chatters t then s.sensor.discardEdge else s.sensor.acceptEdge t
    counters := { s.counters with
      anemometerChatter :=
        if s.sensor.chatters t then satInc s.counters.anemometerChatter else s.counters.anemometerChatter } }

/-- ANEMOMETER_EDGE (R63, log 15). -/
def execAnemometerEdge (offset : Nat) (s : State) : Host.Outcome State Fault Refusal :=
  .next (if s.runs then takeEdge (s.time.capture + BitVec.ofNat 32 offset) s else s)

/-- The span of the period's edges (R64). -/
def Sensor.span (x : Sensor) : Nat :=
  match x.firstEdge, x.lastEdge with
  | some a, some b => captureDiff b a
  | _, _ => 0

/-- The speed of the period that ends at capture time `now`, with `k` mm per pulse (R64). -/
def Sensor.periodSpeed (x : Sensor) (k : Nat) (now : Tick) : Option Nat :=
  if 4 ≤ x.chatter ∧ x.edges < x.chatter then none
  else if 2 ≤ x.edges then some (min 1022 ((x.edges - 1) * k * 100 / x.span))
  else
    match x.lastAccepted, x.lastPeriod with
    | some a, some period => if captureDiff now a ≤ 20000 then some (min 1022 (k * 100 / period)) else some 0
    | _, _ => some 0

/-! ## Vane (R65) -/

/-- The sector of a Gray code, G3 its most significant bit (R65). -/
def sectorOfCode (g : BitVec 4) : Fin 16 :=
  let b3 := g.getLsbD 3
  let b2 := b3 ^^ g.getLsbD 2
  let b1 := b2 ^^ g.getLsbD 1
  let b0 := b1 ^^ g.getLsbD 0
  Fin.ofNat 16 (b3.toNat * 8 + b2.toNat * 4 + b1.toNat * 2 + b0.toNat)

/-- The number of lines in which two codes differ (R65). -/
def linesChanged (a b : BitVec 4) : Nat :=
  ((a ^^^ b).getLsbD 0).toNat + ((a ^^^ b).getLsbD 1).toNat + ((a ^^^ b).getLsbD 2).toNat
    + ((a ^^^ b).getLsbD 3).toNat

/-- The vane lines change to a code (R65). -/
def takeVane (code : BitVec 4) (s : State) : State :=
  { s with
    sensor := { s.sensor with
      vane := code
      faulted := s.sensor.faulted || decide (2 ≤ linesChanged s.sensor.vane code) }
    counters := { s.counters with
      vaneFaults :=
        if 2 ≤ linesChanged s.sensor.vane code then satInc s.counters.vaneFaults else s.counters.vaneFaults } }

/-- VANE_CODE_CHANGE (R65). -/
def execVaneCodeChange (code : BitVec 4) (s : State) : Host.Outcome State Fault Refusal :=
  .next (if s.runs then takeVane code s else s)

/-- The sector of a Sample (R65, log 14). -/
def Sensor.periodSector (x : Sensor) : Option (Fin 16) := if x.faulted then none else some (sectorOfCode x.vane)

/-! ## Dust (R66) -/

/-- DUST_PULSE (R66). -/
def execDustPulse (s : State) : Host.Outcome State Fault Refusal :=
  .next (if s.runs then { s with sensor := { s.sensor with dustCount := satInc s.sensor.dustCount } } else s)

/-- DUST_READY_LOW (R66). -/
def execDustReadyLow (s : State) : Host.Outcome State Fault Refusal :=
  .next (if s.runs then { s with sensor := { s.sensor with dustReady := false, notReady := true } } else s)

/-- The dust class of a count (R66). -/
def dustClass (p : Profile) (n : Nat) : Fin 4 :=
  if n < p.dust1 then 0 else if n < p.dust2 then 1 else if n < p.dust3 then 2 else 3

/-! ## The Sample (R62) -/

/-- The Sample of the period that ends (R62). -/
def State.sampleBuilt (s : State) : Sample where
  stamp := s.time.yardClock
  speed := s.sensor.periodSpeed s.profile.airPerPulse s.time.capture
  sector := s.sensor.periodSector
  dustCount := if s.sensor.notReady then none else some s.sensor.dustCount.toNat
  dust := if s.sensor.notReady then none else some (dustClass s.profile s.sensor.dustCount.toNat)

/-- The Sensor Front End as the next period begins (R62, R63, R65, R66). -/
def Sensor.nextPeriod (x : Sensor) (periodT : Nat) (dustReady : Bool) (sample : Sample) : Sensor :=
  { x with
    edges := 0
    chatter := 0
    firstEdge := none
    lastEdge := none
    faulted := false
    dustCount := 0
    dustReady := dustReady
    notReady := !dustReady
    periodLeft := some periodT
    speed := sample.speed
    sector := sample.sector }

/-! ## The window (R67, R68) -/

/-- The Sample enters the window and the priming count advances (R67). -/
def Detector.push (d : Detector) (x : Sample) : Detector :=
  { d with window := d.window.drop 1 ++ [x], priming := min 16 (d.priming + 1) }

/-- The speeds of the baseline positions that are not UNSET (R67). -/
def Detector.baselineSpeeds (d : Detector) : List Nat := (d.window.take 12).filterMap (·.speed)

/-- The Sample just entered is blind (R68). -/
def Detector.blindNow (d : Detector) : Bool := decide (d.baselineSpeeds.length < 6)

/-- The baseline (R67). -/
def Detector.baseline (d : Detector) : Nat := d.baselineSpeeds.sum / d.baselineSpeeds.length

/-! ## Runs and gusts (R69 to R75) -/

/-- A Sample satisfies (R71). -/
def satisfies (p : Profile) (baseline : Nat) (x : Sample) : Bool :=
  (match x.speed with | some v => decide (baseline + p.gustMargin < v) | none => false)
    && (match x.dust with | some c => decide (p.onsetClass ≤ c.val) | none => true)

/-- The kinds of a Sample in GUSTING and EASING (R73). -/
inductive GustSample where
  | holding | failing | neutral
  deriving DecidableEq, Repr

/-- A Sample sorted (R73). -/
def sortSample (p : Profile) (atOnset : Nat) (x : Sample) : GustSample :=
  match x.speed with
  | none => .neutral
  | some v =>
    if v ≤ atOnset + p.gustMargin / 2 then .failing
    else
      match x.dust with
      | some c => if c.val < p.onsetClass then .failing else .holding
      | none => .holding

/-- A sustain run opened by a Sample (R71). -/
def SustainRun.opened (x : Sample) : SustainRun := ⟨x.stamp, x.speed.getD 0, x.dust, x.sector⟩

/-- A Sample joins the sustain run (R71). -/
def SustainRun.join (r : SustainRun) (x : Sample) : SustainRun where
  firstStamp := r.firstStamp
  peak := max r.peak (x.speed.getD 0)
  dust := maxDust r.dust x.dust
  sector := match x.sector with | some s => some s | none => r.sector

/-- The gust record updated with a Sample (R73). -/
def GustRecord.update (g : GustRecord) (x : Sample) : GustRecord :=
  { g with peak := max g.peak (x.speed.getD 0), dust := maxDust g.dust x.dust }

/-- The ONSET that a complete run makes (R72). -/
def onsetOf (own : Station) (id : Byte) (r : SustainRun) : Sighting :=
  ⟨.onset, own, id, none, r.firstStamp, some r.peak, r.sector, r.dust, false⟩

/-- The SUBSIDE that ends a gust (R74). -/
def subsideOf (own : Station) (id : Byte) (g : GustRecord) (time : Tick) (cut : Bool) : Sighting :=
  ⟨.subside, own, id, some g.onsetId, time, some g.peak, g.sector, g.dust, cut⟩

/-- The detector at an ONSET (R72). -/
def Detector.onset (d : Detector) (r : SustainRun) : Detector :=
  { d with
    state := .gusting
    run := none
    gust := some ⟨d.nextSid, r.sector, r.firstStamp, r.peak, r.dust⟩
    baselineAtOnset := some d.baseline
    firstEasing := none
    nextSid := d.nextSid + 1 }

/-- A satisfying or other Sample in CALM or RISING (R71), with the ONSET it makes. -/
def Detector.rise (d : Detector) (p : Profile) (own : Station) (x : Sample) : Detector × Option Sighting :=
  if satisfies p d.baseline x then
    match d.state, d.run with
    | .rising k, some r =>
      if k + 1 < p.sustain then ({ d with state := .rising (k + 1), run := some (r.join x) }, none)
      else (d.onset (r.join x), some (onsetOf own d.nextSid (r.join x)))
    | _, _ => ({ d with state := .rising 1, run := some (SustainRun.opened x) }, none)
  else ({ d with state := .calm, run := none }, none)

/-- The detector as a gust closes with a SUBSIDE (R74). -/
def Detector.gustClosed (d : Detector) (st : DetectorState) (refractory : Option Nat) : Detector :=
  { d with
    state := st
    gust := none
    baselineAtOnset := none
    firstEasing := none
    refractoryLeft := refractory
    nextSid := d.nextSid + 1 }

/-- The detector in REFRACTORY, through which a refractory time of 0 passes at once (R75). -/
def Detector.enterRefractory (d : Detector) (p : Profile) : Detector :=
  if p.refractoryT = 0 then d.gustClosed .calm none else d.gustClosed .refractory (some p.refractoryT)

/-- The number of failing Samples in succession before this one. -/
def DetectorState.easingCount : DetectorState → Nat
  | .easing k => k
  | _ => 0

/-- A Sample in GUSTING or EASING with gust record `g` (R73, R74), with the SUBSIDE it makes. -/
def Detector.gustSample (d : Detector) (p : Profile) (own : Station) (g : GustRecord) (x : Sample) :
    Detector × Option Sighting :=
  let g1 := g.update x
  let d1 := { d with gust := some g1 }
  match sortSample p (d.baselineAtOnset.getD 0) x with
  | .neutral => (d1, none)
  | .holding => ({ d1 with state := .gusting, firstEasing := none }, none)
  | .failing =>
    let first := d.firstEasing.getD x.stamp
    if d.state.easingCount + 1 < p.sustain then
      ({ d1 with state := .easing (d.state.easingCount + 1), firstEasing := some first }, none)
    else (d1.enterRefractory p, some (subsideOf own d.nextSid g1 first false))

/-- A Sample evaluated by the detector's state (R68 steps 4 and 5). -/
def Detector.judge (d : Detector) (p : Profile) (own : Station) (x : Sample) : Detector × Option Sighting :=
  match d.state, d.gust with
  | .blind, _ => { d with state := .calm }.rise p own x
  | .calm, _ => d.rise p own x
  | .rising _, _ => d.rise p own x
  | .refractory, _ => (d, none)
  | .gusting, some g => d.gustSample p own g x
  | .easing _, some g => d.gustSample p own g x
  | _, none => (d, none)

/-- A blind Sample (R69), with the cut SUBSIDE it makes (R74). -/
def Detector.goBlind (d : Detector) (own : Station) (x : Sample) : Detector × Option Sighting :=
  match d.state, d.gust with
  | .gusting, some g => (d.gustClosed .blind none, some (subsideOf own d.nextSid (g.update x) x.stamp true))
  | .easing _, some g =>
    (d.gustClosed .blind none, some (subsideOf own d.nextSid (g.update x) (d.firstEasing.getD x.stamp) true))
  | _, _ => ({ d with state := .blind, run := none, refractoryLeft := none }, none)

/-! ## SENSOR_FAULT (R77) and the local override (R81) -/

/-- A run count of at most 8 (R77). -/
def runCount8 (b : Bool) (n : Nat) : Nat := if b then min 8 (n + 1) else 0

/-- The run counts advance with a Sample (R77, log 13). -/
def Detector.countRuns (d : Detector) (x : Sample) (vaneFaulted : Bool) : Detector :=
  { d with dustRun := runCount8 x.dust.isNone d.dustRun, vaneRun := runCount8 vaneFaulted d.vaneRun }

/-- The blind condition (R77). -/
def Detector.isBlind (d : Detector) : Bool := d.state == .blind && d.priming == 16

/-- The conditions and the flag as examined at a Sample; at a blind Sample the blind condition alone (R77, log 13). -/
def Detector.examine (d : Detector) (blindOnly : Bool) : Detector :=
  let dust := if blindOnly then d.condDust else d.dustRun == 8
  let vane := if blindOnly then d.condVane else d.vaneRun == 8
  { d with
    condBlind := d.isBlind
    condDust := dust
    condVane := vane
    sensorFault := d.isBlind || dust || vane }

/-- A condition begins to hold (R77). -/
def faultBegins (d0 d1 : Detector) : Bool :=
  (d1.condBlind && !d0.condBlind) || (d1.condDust && !d0.condDust) || (d1.condVane && !d0.condVane)

/-- The local override re-derived (R81). -/
def Detector.rederive (d : Detector) (x : Sample) : Detector :=
  { d with localOverride := d.state == .gusting && x.dust == some 3 }

/-- The evaluation of a Sample (R68), with the sighting it makes. -/
def Detector.take (d : Detector) (p : Profile) (own : Station) (x : Sample) (vaneFaulted : Bool) :
    Detector × Option Sighting :=
  let d1 := (d.push x).countRuns x vaneFaulted
  let r := if d1.blindNow then d1.goBlind own x else d1.judge p own x
  ((r.1.examine d1.blindNow).rederive x, r.2)

/-! ## Reports to the Warning Unit (R82) -/

/-- Two states with the same name (R82). -/
def DetectorState.sameName : DetectorState → DetectorState → Bool
  | .rising _, .rising _ => true
  | .easing _, .easing _ => true
  | a, b => a == b

/-- A Sample brings a report (R82). -/
def reportsChange (d0 d1 : Detector) (made : Option Sighting) : Bool :=
  !d0.state.sameName d1.state || d0.localOverride != d1.localOverride || made.any (fun g => g.kind == .onset)

/-! ## The Outbound Queue (R78, R79) -/

/-- The Outbound Queue refuses a sighting (R79). -/
def State.refusesOutbound (s : State) (g : Sighting) : Bool :=
  s.mode == .listening || decide (8 ≤ s.outbound.length) || s.outbound.any (fun x => x.sid == g.sid)

/-- A sighting is offered to the Outbound Queue (R79). -/
def offerOutbound (g : Sighting) (s : State) : State :=
  { s with
    outbound := if s.refusesOutbound g then s.outbound else s.outbound ++ [g]
    counters := { s.counters with
      outboundRefused :=
        if s.refusesOutbound g then satInc s.counters.outboundRefused else s.counters.outboundRefused } }

/-- A sighting the detector made: an ONSET wakes a station in LULL, and the sighting is offered (R72, R79, R160,
log 37). -/
def handSighting (g : Sighting) (s : State) : State :=
  offerOutbound g (if s.mode = .lull ∧ g.kind = .onset then wakeAfter 0 false s else s)

/-- A sighting is handed over, if one was made. -/
def handMade (made : Option Sighting) (s : State) : State :=
  match made with
  | some g => handSighting g s
  | none => s

/-! ## The end of a period and of REFRACTORY -/

/-- The Onset Detector takes a Sample (R68, R77, R79, R82). -/
def takeSample (x : Sample) (vaneFaulted : Bool) (s : State) : State :=
  let r := s.detector.take s.profile s.own x vaneFaulted
  evaluateIf (reportsChange s.detector r.1 r.2)
    (handMade r.2 (raiseIf (faultBegins s.detector r.1) .sensorFault { s with detector := r.1 }))

/-- The period ends and the next begins (R62). -/
def endPeriod (dustReady : Bool) (s : State) : State :=
  takeSample s.sampleBuilt s.sensor.faulted
    { s with sensor := s.sensor.nextPeriod s.profile.samplePeriodT dustReady s.sampleBuilt }

/-- SAMPLE_PERIOD_END (R62). -/
def execSamplePeriodEnd (dustReady : Bool) (s : State) : Host.Outcome State Fault Refusal :=
  .next (if s.runs ∧ s.sensor.periodLeft = some 0 then finishAtTick (endPeriod dustReady s) else s)

/-- REFRACTORY_EXPIRY (R75). -/
def execRefractoryExpiry (s : State) : Host.Outcome State Fault Refusal :=
  .next (if s.runs ∧ s.detector.state = .refractory ∧ s.detector.refractoryLeft = some 0 then
      finishAtTick (evaluate { s with detector := { s.detector with state := .calm, refractoryLeft := none } })
    else s)

/-- On leaving LISTENING a detector in RISING discards its sustain run and becomes CALM, a change it reports (R82). -/
def leaveListening (s : State) : State :=
  match s.detector.state with
  | .rising _ => evaluate { s with detector := { s.detector with state := .calm, run := none } }
  | _ => s

end Sys2Proof.Machine
end

