-- ==== Sys2Proof/Machine/Line.lean ====
section
/-! DEFINITION. The Line Controller (R85 to R114): opportunities and the cycle, MARK handling, frames taken and
rejected, the plan and the own frames, with the commands of the line family. -/

namespace Sys2Proof.Machine

/-! ## Timers and states -/

/-- An opportunity is running (R96). -/
def Opp.isNumber : Opp → Bool
  | .number _ => true
  | _ => false

/-- The open timer starts with the back-off delay (R99, R100). -/
def State.backoffTimer (s : State) : OpenTimer := .ms s.backoffDelay 0

/-- Entry into MUTE (R108); a station already in MUTE keeps its reason. -/
def enterMute (r : MuteReason) (s : State) : State :=
  if s.mode = .mute then s
  else
    raiseEvent .muted { s with
      mode := .mute
      line := { s.line with
        muteReason := some r
        openTimer := .stopped
        listenLeft := none
        zeroCadence := none
        plan := none } }

/-! ## The end of an opportunity (R96 to R98) -/

/-- The station starts an open timer at the end of a cycle (R98). -/
def Mode.opensCycle : Mode → Bool
  | .active | .resync => true
  | _ => false

/-- The cycle ends (R98). -/
def endCycle (s : State) : State :=
  { s with
    line := { s.line with
      opp := .ended
      silence := false
      oppFrames := false
      plan := none
      openTimer := if s.mode.opensCycle then .ms s.cycleEndDelay 0 else .stopped
      openFresh := true } }

/-- Opportunity `k` begins (R96, R97). -/
def beginOpportunity (k : Nat) (s : State) : State :=
  { s with line := { s.line with opp := .number k, silence := true, oppFrames := false, plan := none } }

/-- Opportunity `k` ends: its staging is settled, and the next one begins or the cycle ends (R96 to R98, R144). The
staging's trace entry carries the counter before the move, the model's choice (log 12). -/
def endOpportunity (k : Nat) (s : State) : State :=
  if k + 1 < s.profile.stations then beginOpportunity (k + 1) (settleStaging s) else endCycle (settleStaging s)

/-- The opportunity that runs, if any, ends (R97). -/
def endCurrent (s : State) : State :=
  match s.line.opp with
  | .number k => endOpportunity k s
  | _ => s

/-- A frame of the opportunity ends without ending it: the silence timer restarts (R97). -/
def restartSilence (s : State) : State := { s with line := { s.line with silence := s.line.opp.isNumber } }

/-- A frame taken or sent ends: with FINAL it ends the opportunity, else the silence timer restarts (R97). -/
def frameOver (final : Bool) (s : State) : State :=
  if final then endCurrent s
  else { s with line := { s.line with silence := s.line.opp.isNumber, oppFrames := s.line.opp.isNumber } }

/-- The cut of an opportunity in which a frame was taken or sent (R97). BURST_CUT is offered before the counter leaves
the opportunity and before the staging's entry, the model's choice (log 12). -/
def cutOpportunity (k : Nat) (s : State) : State :=
  if s.line.oppFrames then
    offer .burstCut (some (Fin.ofNat 32 k)) none .none
      { s with counters := { s.counters with burstCuts := satInc s.counters.burstCuts } }
  else s

/-- SILENCE_TIMEOUT (R97). The cut comes before the staging is settled and the counter moves (log 12). -/
def execSilenceTimeout (s : State) : Host.Outcome State Fault Refusal :=
  .next (match s.awake && s.line.silence && s.line.tx.isNone, s.line.opp with
    | true, .number k => finish (endOpportunity k (cutOpportunity k s))
    | _, _ => s)

/-! ## MARK handling (R93 to R95, R111) -/

/-- The line state after a MARK (R93, R95, R111). -/
def Mode.afterMark : Mode → Mode
  | .listening | .resync => .active
  | m => m

/-- The effects of a MARK in the Line Controller (R95). -/
def markLine (m : MarkBody) (s : State) : State :=
  { s with
    mode := s.mode.afterMark
    line := { s.line with
      cycle := m.cycle
      cadence := m.cadence
      opp := .number 0
      used := false
      oppFrames := false
      wakePending := false
      silence := true
      openTimer := .stopped
      listenLeft := none
      zeroCadence := none
      collisions := 0
      rx := .idle
      tx := none
      plan := none } }

/-- The trace offers and the counter of an own MARK (R95, R104, R185). -/
def markOpened (s : State) : State :=
  offer .markOpened (some s.own) (some .mark) .none
    (offer .frameOut (some s.own) (some .mark) .none
      { s with counters := { s.counters with marksOpened := satInc s.counters.marksOpened } })

/-- The close and the check of one MARK, in the order that the free value gives (R174, log 10). -/
def closeAndCheck (c : Word16) (overrun : Bool) (s : State) : State :=
  if Config.closeFirst s.freeCount then
    runCheck c overrun true (closeCycle { s with freeCount := s.freeCount + 1 })
  else closeCycle (runCheck c overrun false { s with freeCount := s.freeCount + 1 })

/-- What the Roster, the Agreement Unit and the Onset Detector do at a MARK that closes cycle `c`, by the line state
before it (R82, R94, R95, R111, R128, R131). -/
def markJudged (before : Mode) (own : Bool) (c : Word16) (overrun : Bool) (s : State) : State :=
  match before with
  | .listening =>
    leaveListening (closeCycle { s with agree := { s.agree with state := if own then .agreed else .joining } })
  | .resync => becomeDiverged (closeCycle s)
  | _ => closeAndCheck c overrun s

/-- A MARK of source `src`, taken or the station's own (R93 to R95, R111, log 11). By the model's choice its STALE discard
and its entry into DIVERGED are offered after the line effects, so those trace entries carry the cycle number and the
opportunity 0 that the MARK has just set (logs 11, 12). -/
def handleMark (own : Bool) (src : Station) (m : MarkBody) (s : State) : State :=
  let s1 := markLine m s
  let s2 := if own then markOpened s1 else s1
  markJudged s.mode own s.line.cycle s.fusion.overruns
    (markLabels m.cycle m.time (staleStaging (hear src (adopt m.time s2))))

/-! ## Frames taken (R90, R92, R106, R107, R110) -/

/-- The receive path collects frames: the receiver is on, past its quiet wait, and the station does not transmit
(R86, R90, log 3). -/
def State.receives (s : State) : Bool :=
  s.awake && s.line.tx.isNone
    && (match s.line.rx with
        | .idle | .busy | .collecting _ => true
        | .off | .quietWait _ => false)

/-- The verdict of the receive checks on this station (R90). -/
def State.judges (s : State) (frame : List RxChar) : Verdict := judge s.profile.stations s.own frame

/-- The detail of a FRAME_IN or FRAME_OUT entry (R185). -/
def Body.detail : Body → Detail
  | .sighting g => .sid g.sid
  | .transfer t => .count t.count
  | .mark _ | .presence _ => .none

/-- A frame is taken from the line: counted and traced (R90). FRAME_IN is offered before the frame's other effects, the
model's choice (log 12); that of a frame which enters RESYNC is offered in `enterResync`. -/
def frameIn (src : Station) (b : Body) (s : State) : State :=
  offer .frameIn (some src) (some b.kind) b.detail
    { s with counters := { s.counters with framesTaken := satInc s.counters.framesTaken } }

/-- The open timer waits for the frame under way to end: it expired on the busy line, or the frame follows an own
MARK's collision (R99, R100). -/
def State.awaitsFrameEnd (s : State) : Bool := s.line.openTimer == .busy || s.line.rx == .collecting true

/-- The line after a frame that is not a MARK ends: idle, and the open timer that waited for the end restarts with the
back-off delay (R99, R100). -/
def lineIdle (s : State) : State :=
  { s with
    line := { s.line with
      rx := .idle
      openTimer := if s.awaitsFrameEnd && s.mode != .mute then s.backoffTimer else s.line.openTimer } }

/-- A taken frame abandons the plan (R103, R104). -/
def abandonPlan (s : State) : State := { s with line := { s.line with plan := none } }

/-- A frame of source `src` is a slot disagreement (R107). -/
def State.disagrees (s : State) (src : Station) : Bool :=
  match s.line.opp with
  | .number k => k != src.val
  | .ended => true
  | .none => false

/-- The opportunity counter moves to the source of a taken frame (R107). The staging is settled first, and its trace
entry carries the counter before the move; SLOT_DISAGREE carries the cycle number before a PRESENCE in RESYNC sets it
(R111). Both are the model's choice (log 12). -/
def moveCounter (src : Station) (kind : FrameKind) (s : State) : State :=
  let s1 := settleStaging s
  offer .slotDisagree (some src) (some kind) (.opp s.line.opp)
    { s1 with
      line := { s1.line with opp := .number src.val, openTimer := .stopped, oppFrames := false }
      counters := { s1.counters with slotDisagreements := satInc s1.counters.slotDisagreements } }

/-- The frame is brought into its opportunity (R106, R107). -/
def alignTo (src : Station) (kind : FrameKind) (s : State) : State :=
  if s.disagrees src then moveCounter src kind s else s

/-- The cycle number that a PRESENCE sets in RESYNC (R111). -/
def Body.cycleInResync (b : Body) (c : Word16) : Word16 :=
  match b with
  | .presence p => p.cycle
  | _ => c

/-- The state that entry into RESYNC by a frame of source `src` sets (R25, R110, R111, R147, R161). -/
def resyncEntered (src : Station) (b : Body) (s : State) : State :=
  { s with
    mode := .resync
    line := { s.line with
      wakePending := false
      opp := .number src.val
      openTimer := .stopped
      cycle := b.cycleInResync s.line.cycle
      oppFrames := false }
    fusion := { s.fusion with openLabel := none }
    agree := { s.agree with staging := Staging.empty }
    counters := { s.counters with missedMarks := satInc s.counters.missedMarks } }

/-- Entry into RESYNC by a taken frame (R90, R110): FRAME_IN and then RESYNC, both with the cycle number and the counter
that the entry has set (R185; 10_line_trace_and_counters.md, worked example). -/
def enterResync (src : Station) (b : Body) (s : State) : State :=
  offer .resync (some src) (some b.kind) .none (frameIn src b (resyncEntered src b s))

/-- A PRESENCE in RESYNC sets the station's cycle number (R111). -/
def resyncCycle (b : Body) (s : State) : State :=
  { s with line := { s.line with cycle := if s.mode = .resync then b.cycleInResync s.line.cycle else s.line.cycle } }

/-- The contents of a taken frame go where R92 gives. -/
def deliver (src : Station) (b : Body) (s : State) : State :=
  match b with
  | .mark _ => s
  | .presence p => recordPresence src p (hear src s)
  | .sighting g => if s.mode = .resync then hear src s else addSighting g (hear src s)
  | .transfer t => if s.mode = .resync then hear src s else takeTransfer src t (hear src s)

/-- A frame other than a MARK, taken outside LISTENING and a wake (R92, R97, R107, R111). In RESYNC the counter moves, and
SLOT_DISAGREE is offered, before a PRESENCE sets the cycle number: the book does not order the two, and the model's
choice shows in the cycle number of that entry (log 12). -/
def takeInCycle (src : Station) (final : Bool) (b : Body) (s : State) : State :=
  frameOver final (deliver src b (resyncCycle b (alignTo src b.kind s)))

/-- A frame other than a MARK, the first taken after a wake (R110). -/
def takeAfterWake (src : Station) (final : Bool) (b : Body) (s : State) : State :=
  frameOver final (deliver src b (enterResync src b s))

/-- A taken frame other than a MARK (R92). -/
def takeFrame (src : Station) (final : Bool) (b : Body) (s : State) : State :=
  if s.mode = .active ∧ s.line.wakePending then takeAfterWake src final b (abandonPlan (lineIdle s))
  else if s.mode = .listening then abandonPlan (lineIdle (frameIn src b s))
  else takeInCycle src final b (abandonPlan (lineIdle (frameIn src b s)))

/-- A frame taken as the kind its command names. -/
def receive (kind : FrameKind) (frame : List RxChar) (s : State) : State :=
  match s.receives, s.judges frame with
  | true, .taken src final b =>
    if b.kind = kind then
      match b with
      | .mark m => handleMark false src m (frameIn src b s)
      | b => finish (takeFrame src final b s)
    else s
  | _, _ => s

/-- MARK_RECEIVED (R95). -/
def execMarkReceived (frame : List RxChar) (s : State) : Host.Outcome State Fault Refusal :=
  .next (receive .mark frame s)

/-- PRESENCE_RECEIVED (R117). -/
def execPresenceReceived (frame : List RxChar) (s : State) : Host.Outcome State Fault Refusal :=
  .next (receive .presence frame s)

/-- SIGHTING_RECEIVED (R21). -/
def execSightingReceived (frame : List RxChar) (s : State) : Host.Outcome State Fault Refusal :=
  .next (receive .sighting frame s)

/-- TRANSFER_RECEIVED (R141). -/
def execTransferReceived (frame : List RxChar) (s : State) : Host.Outcome State Fault Refusal :=
  .next (receive .transfer frame s)

/-! ## Frames rejected (R86, R90, R99, R100, R104, R108) -/

/-- The rejection counter of a reason (R90). -/
def Counters.incReject (c : Counters) : RejectReason → Counters
  | .check => { c with checkRejections := satInc c.checkRejections }
  | .length => { c with lengthRejections := satInc c.lengthRejections }
  | .source => { c with sourceRejections := satInc c.sourceRejections }
  | .own => { c with ownRejections := satInc c.ownRejections }
  | .field => { c with fieldRejections := satInc c.fieldRejections }

/-- The receive path collects the frame that follows an own mismatch (R100, R104). -/
def Rx.afterMismatch : Rx → Bool
  | .collecting _ => true
  | _ => false

/-- A rejection is counted and traced (R90). -/
def countRejection (r : RejectReason) (h : Option Byte) (s : State) : State :=
  offer .checkFail (h.map headerSource) (h.map headerKind) (.reject r)
    { s with counters := s.counters.incReject r }

/-- A rejection is counted and traced, except a cut frame that follows an own mismatch (R100, R104, log 18). -/
def noteRejection (r : RejectReason) (isCut : Bool) (h : Option Byte) (s : State) : State :=
  if isCut && s.line.rx.afterMismatch then s else countRejection r h s

/-- The effect of a duplicate station number (R108). -/
def foundDuplicate (h : Option Byte) (s : State) : State :=
  enterMute .duplicate (offer .duplicate (some s.own) (h.map headerKind) .none s)

/-- A frame fails a receive check (R90, R97, R99, R100, R108). -/
def rejectFrame (r : RejectReason) (isCut : Bool) (h : Option Byte) (s : State) : State :=
  let s1 := noteRejection r isCut h s
  restartSilence (lineIdle (if r = .own then foundDuplicate h s1 else s1))

/-- FRAME_REJECTED (R90). After an own mismatch that left no character (R100, R104), the frame is the empty one, cut by
the model's choice, and it ends at this command (log 50). -/
def execFrameRejected (frame : List RxChar) (s : State) : Host.Outcome State Fault Refusal :=
  .next (match s.receives, s.judges frame with
    | true, .rejected r isCut h => rejectFrame r isCut h s
    | _, _ => s)

/-- FRAME_START (R86): a frame begins on the line, or during the receiver's quiet wait. -/
def execFrameStart (s : State) : Host.Outcome State Fault Refusal :=
  .next (match s.awake && s.line.tx.isNone, s.line.rx with
    | true, .idle => { s with line := { s.line with rx := .busy, silence := false } }
    | true, .quietWait _ => { s with line := { s.line with rx := .quietWait true } }
    | _, _ => s)

/-! ## Opening a cycle (R94, R99, R100, R161) -/

/-- The MARK that the station sends now (R94, R99). Its cadence is the preference formed now, but for the MARK of the
cycle 0 timer the one formed when the listen time expired (R154, log 22). -/
def State.ownMark (s : State) : MarkBody where
  cycle := if s.mode = .listening then 0 else s.line.cycle + 1
  time := s.time.yardClock
  cadence := s.line.zeroCadence.getD s.preference

/-- The station begins its MARK (R99). -/
def sendMark (s : State) : State :=
  { s with
    line := { s.line with openTimer := .stopped, zeroCadence := none, tx := some ⟨.mark s.ownMark, false⟩ } }

/-- The open timer has expired, by what the receive path finds on the line (R99, R161). -/
def openExpired (s : State) : State :=
  match s.line.rx with
  | .idle => sendMark s
  | .busy | .collecting _ => { s with line := { s.line with openTimer := .busy, zeroCadence := none } }
  | .quietWait _ => { s with line := { s.line with openTimer := .held } }
  | .off => s

/-- The open timer in LULL expires before the next tick, or on the lull period that also reaches it, and then, by the
model's choice, first (R158, R160, log 7). -/
def State.openDueInLull (s : State) : Bool :=
  !s.resetHeld && s.mode == .lull
    && (match s.line.openTimer with | .lull p => decide (p ≤ s.time.periodsToTick) | _ => false)

/-- The open timer runs on ms on a station that may send a MARK (R93, R99). -/
def State.openRuns (s : State) : Bool :=
  s.awake && s.mode != .mute && s.line.openTimer.runsMs && s.line.tx.isNone

/-- OPEN_TIMER_EXPIRY (R99, R160). -/
def execOpenTimerExpiry (s : State) : Host.Outcome State Fault Refusal :=
  .next (if s.openDueInLull then wakeAfter s.line.openTimer.periodsLeft true s
    else if s.openRuns then openExpired s
    else s)

/-- LISTEN_TIMER_EXPIRY (R94): the cycle 0 timer starts, and the preference is formed for its MARK (R154, log 22). -/
def execListenTimerExpiry (s : State) : Host.Outcome State Fault Refusal :=
  .next (if s.awake ∧ s.mode = .listening ∧ s.line.listenLeft = some 0 then
      { s with line := { s.line with
          listenLeft := none
          zeroCadence := some s.preference
          openTimer := .ms (s.own.val * s.profile.staggerMs) 0 } }
    else s)

/-- The line is found idle after the receiver's quiet wait, and an open timer held by the wait is taken up (R86, R161). -/
def quietWaitOver (skipped : Bool) (s : State) : State :=
  if s.line.openTimer = .held then
    if skipped then
      { s with line := { s.line with rx := .idle, openTimer := s.backoffTimer, zeroCadence := none } }
    else sendMark { s with line := { s.line with rx := .idle } }
  else { s with line := { s.line with rx := .idle } }

/-- RECEIVER_QUIET_WAIT_END (R86). -/
def execReceiverQuietWaitEnd (s : State) : Host.Outcome State Fault Refusal :=
  .next (match s.awake, s.line.rx with
    | true, .quietWait skipped => quietWaitOver skipped s
    | _, _ => s)

/-- An own MARK is on the line. -/
def State.sendingMark (s : State) : Option MarkBody :=
  match s.awake, s.line.tx with
  | true, some ⟨.mark m, _⟩ => some m
  | _, _ => none

/-- MARK_SENT (R94, R95, R99). -/
def execMarkSent (s : State) : Host.Outcome State Fault Refusal :=
  .next (match s.sendingMark with
    | some m => handleMark true s.own m s
    | none => s)

/-- A mark collision (R100): counted, traced, and the frame on the line collected, until the command that takes or rejects
it, also where no character was returned (log 50). -/
def collide (s : State) : State :=
  offer .markCollision (some s.own) (some .mark) (.count (s.line.collisions + 1))
    { s with
      line := { s.line with collisions := s.line.collisions + 1, tx := none, rx := .collecting true }
      counters := { s.counters with markCollisions := satInc s.counters.markCollisions } }

/-- MARK_COLLISION (R100); the third in succession enters MUTE (R108, log 17). With the line released, the ten
conditions of LULL are tested (R93, R156, log 20). -/
def execMarkCollision (s : State) : Host.Outcome State Fault Refusal :=
  .next (match s.sendingMark with
    | some _ => finish (if 3 ≤ s.line.collisions + 1 then enterMute .markContention (collide s) else collide s)
    | none => s)

/-! ## The own opportunity (R101 to R105) -/

/-- The channel bytes' contents (R102, R182). -/
def Warn.channels (w : Warn) : List (Option (Fin 8 × Level)) :=
  (List.range 4).map (fun k => (w.zones[k]?).map (fun z => (z.zone, z.level)))

/-- The PRESENCE composed now (R102). -/
def State.presence (s : State) : Presence where
  cycle := s.line.cycle
  fused := s.table.fusedThrough
  digest := s.table.fusedThrough.map (fun l => (historyOf s.agree.history l).getD 0)
  profileDigest := s.profileDigest
  alert := s.ownAlert
  needTable := s.requests
  sensorFault := s.detector.sensorFault
  agree := s.agree.state
  wind := s.sensor.speed
  sector := s.sensor.sector
  channels := s.warn.channels

/-- The contents of a frame of the plan whose first attempt begins now (R101, R102). -/
def State.compose (s : State) : PlanItem → Option Body
  | .presence => some (.presence s.presence)
  | .sighting => s.outbound.head?.map .sighting
  | .transfer t => some (.transfer t)

/-- A frame of the plan begins, or, with nothing to send, the plan ends (R101, R103). -/
def beginFrame (p : Plan) (b : Option Body) (s : State) : State :=
  match b with
  | some b =>
    { s with line := { s.line with
        silence := false
        tx := some ⟨b, p.items.length == 1⟩
        plan := some { p with current := some b, wait := .frameEnd } } }
  | none => abandonPlan s

/-- The first attempt of the plan's next frame, after the check of the line (R103). -/
def beginNext (p : Plan) (s : State) : State :=
  if s.line.rx = .idle then beginFrame p (p.items.head?.bind s.compose) s else abandonPlan s

/-- The frames of the plan fixed now (R101). -/
def State.planItems (s : State) : List PlanItem :=
  .presence :: List.replicate (min s.profile.burstLimit s.outbound.length) .sighting
    ++ s.transferFrames.map .transfer

/-- The plan fixed now (R101). -/
def State.planFixed (s : State) : Plan := ⟨s.planItems, none, 0, .nextStart, s.transferFrames.length⟩

/-- The station may fix its plan (R101, log 36). -/
def State.fixesPlan (s : State) : Bool :=
  s.awake && s.mode == .active && s.line.opp == .number s.own.val && !s.line.used
    && s.line.rx == .idle && s.line.tx.isNone

/-- PLAN_FIX (R101). -/
def execPlanFix (s : State) : Host.Outcome State Fault Refusal :=
  .next (if s.fixesPlan then beginNext s.planFixed { s with line := { s.line with used := true } } else s)

/-- The plan that waits for `w` on a station that does not transmit (R103, R104). -/
def State.planWaiting (s : State) (w : PlanWait) : Option Plan :=
  match s.awake && s.line.tx.isNone, s.line.plan with
  | true, some p => if p.wait = w then some p else none
  | _, _ => none

/-- NEXT_FRAME_START (R103). -/
def execNextFrameStart (s : State) : Host.Outcome State Fault Refusal :=
  .next (match s.planWaiting .nextStart with
    | some p => beginNext p s
    | none => s)

/-- FRAME_REPEAT (R104): the same frame, byte for byte, after the check of the line. -/
def execFrameRepeat (s : State) : Host.Outcome State Fault Refusal :=
  .next (match s.planWaiting .repeatStart with
    | some p => if s.line.rx = .idle then beginFrame p p.current s else abandonPlan s
    | none => s)

/-- An own frame other than a MARK is on the line, with its plan. -/
def State.sendingFrame (s : State) : Option (Body × Bool × Plan) :=
  match s.awake, s.line.tx, s.line.plan with
  | true, some ⟨b, final⟩, some p => if b.kind = .mark then none else some (b, final, p)
  | _, _, _ => none

/-- The plan without its current frame; none when no frame is left (R103). -/
def Plan.next (p : Plan) : Option Plan :=
  if p.items.length ≤ 1 then none
  else some { p with items := p.items.drop 1, current := none, attempts := 0, wait := .nextStart }

/-- The plan after an attempt of its current frame fails for the third time (R105). -/
def Plan.afterDrop (p : Plan) (k : FrameKind) : Option Plan := if k = .transfer then none else p.next

/-- A sighting leaves the head of the Outbound Queue when its frame is sent or dropped (R80, R105). -/
def outboundAfter (k : FrameKind) (q : List Sighting) : List Sighting := if k = .sighting then q.drop 1 else q

/-- A failed attempt is counted and traced, the line released, and the frame on the line collected, also where no character
was returned (R104, logs 19, 50). -/
def failAttempt (b : Body) (p : Plan) (s : State) : State :=
  offer .echoFail (some s.own) (some b.kind) (.count (p.attempts + 1))
    { s with
      line := { s.line with
        tx := none
        rx := .collecting false
        silence := s.line.opp.isNumber
        plan := some { p with attempts := p.attempts + 1, wait := .repeatStart } }
      counters := { s.counters with echoFailures := satInc s.counters.echoFailures } }

/-- The current frame is dropped (R105). -/
def dropFrame (b : Body) (p : Plan) (s : State) : State :=
  { s with
    outbound := outboundAfter b.kind s.outbound
    line := { s.line with plan := p.afterDrop b.kind }
    counters := { s.counters with framesDropped := satInc s.counters.framesDropped } }

/-- ECHO_FAIL (R104, R105). -/
def execEchoFail (s : State) : Host.Outcome State Fault Refusal :=
  .next (match s.sendingFrame with
    | some (b, _, p) =>
      finish (if p.attempts + 1 < 3 then failAttempt b p s else dropFrame b p (failAttempt b p s))
    | none => s)

/-- A frame is sent: it leaves the line and the plan, traced (R104). FRAME_OUT is offered before the frame's other
effects, so it carries the counter before FINAL moves it, the model's choice (log 12). -/
def frameOut (b : Body) (p : Plan) (s : State) : State :=
  offer .frameOut (some s.own) (some b.kind) b.detail
    { s with line := { s.line with tx := none, rx := .idle, plan := p.next } }

/-- The last TRANSFER frame of an own transfer is sent (R140). TRANSFER_SENT is offered after the Line Controller's
FRAME_OUT and before FINAL moves the counter, so its opportunity index is the own number, the model's choice (log 12). -/
def transferSent (p : Plan) (s : State) : State :=
  if p.items.length ≤ 1 then
    offer .transferSent (some s.own) (some .transfer) (.count p.transfers)
      { s with counters := { s.counters with transfersSent := satInc s.counters.transfersSent } }
  else s

/-- A sent frame is taken by its own sender (R80, R104, R119, R140). -/
def takeOwn (b : Body) (p : Plan) (s : State) : State :=
  match b with
  | .mark _ => s
  | .presence r => recordPresence s.own r (hear s.own s)
  | .sighting g => addSighting g (hear s.own { s with outbound := outboundAfter .sighting s.outbound })
  | .transfer _ => transferSent p (hear s.own s)

/-- FRAME_SENT (R104). FRAME_OUT first, then TRANSFER_SENT, then the end of the opportunity at FINAL: R186 lets either of
two blocks' entries be recorded first, and this order is the model's choice (log 12). -/
def execFrameSent (s : State) : Host.Outcome State Fault Refusal :=
  .next (match s.sendingFrame with
    | some (b, final, p) => finish (frameOver final (takeOwn b p (frameOut b p s)))
    | none => s)

end Sys2Proof.Machine
end

