-- ==== Sys2Proof/Machine/Loader.lean ====
section
/-! DEFINITION. The Configuration Loader and the restarts (R188, R199, R202 to R208): reading an image, judging it,
entering LISTENING, and the commands of the restart and load family. -/

namespace Sys2Proof.Machine

/-! ## Reading an image (R202) -/

/-- A byte of the image. -/
def imgByte (m : List Byte) (i : Nat) : Nat := (m.getD i 0).toNat

/-- A 16-bit field of the image. -/
def imgWord (m : List Byte) (i : Nat) : Nat := imgByte m i * 256 + imgByte m (i + 1)

/-- The station positions of numbers 0..31 (R202). -/
def imgPositions (m : List Byte) : List (Nat × Nat) :=
  (List.range 32).map (fun i => (imgWord m (4 + 4 * i), imgWord m (6 + 4 * i)))

/-- The eight zone fields (R202). -/
def imgZones (m : List Byte) : List YardZone :=
  (List.range 8).map (fun i => ⟨imgWord m (133 + 6 * i), imgWord m (135 + 6 * i), imgWord m (137 + 6 * i)⟩)

/-- The yard profile of an image (R202); times used in ticks are converted. -/
def imgProfile (m : List Byte) : Profile where
  stations := imgByte m 3
  positions := (imgPositions m).take (imgByte m 3)
  zones := (imgZones m).take (imgByte m 132)
  samplePeriodT := imgByte m 181
  airPerPulse := imgWord m 182
  gustMargin := imgByte m 184
  onsetClass := imgByte m 185
  sustain := imgByte m 186
  dust1 := imgWord m 187
  dust2 := imgWord m 189
  dust3 := imgWord m 191
  refractoryT := imgByte m 193 * 100
  quietGapMs := imgByte m 194 * 1000
  alertGapMs := imgWord m 195
  staggerMs := imgByte m 197
  silenceMs := imgByte m 198
  burstLimit := imgByte m 199
  stepTolerance := imgByte m 200
  lullAllowed := imgByte m 201 == 1
  guardMs := imgWord m 202
  assocRadius := imgWord m 204
  pairingT := imgWord m 206 * 100
  nominalSpeed := imgWord m 208
  speedFloor := imgWord m 210
  speedCeiling := imgWord m 212
  horizonT := imgWord m 214 * 100
  rounding := if imgByte m 216 = 1 then .nearest else .early
  decayT := imgWord m 217 * 100
  releaseT := imgWord m 219 * 100
  alarmLeadT := imgWord m 221 * 100
  warnLeadT := imgWord m 223 * 100
  watchDistance := imgWord m 225
  strongGust := imgWord m 227
  holdT := imgWord m 229 * 100

/-- The station table entry of a number (R202). -/
def imgEntry (m : List Byte) (i : Nat) : StationEntry :=
  ⟨imgByte m (232 + 2 * i) % 2 == 1, imgByte m (232 + 2 * i) / 2 % 2 == 1, m.getD (233 + 2 * i) 0⟩

/-- The trace mode of a code (R195). -/
def traceModeOf (n : Nat) : TraceMode :=
  match n with
  | 0 => .off
  | 1 => .all
  | _ => .matching

/-- The sets of kinds hold fifteen bits; bit 15 is not read (R195, log 34). -/
def kindSetOf (hi lo : Byte) : Word16 := ofBe16 hi lo &&& 0x7FFF

/-- Trace settings from the seven bytes of ARM TRACE or of the image (R189, R195, R202). -/
def traceSettingsOf (mode k1 k0 value mask f1 f0 : Byte) : TraceSettings :=
  ⟨traceModeOf mode.toNat, kindSetOf k1 k0, value.setWidth 5, mask.setWidth 5, kindSetOf f1 f0⟩

/-- The mode code is known and source value and mask lie in 0..31 (R189). -/
def traceArgsOk (mode value mask : Byte) : Bool :=
  decide (mode.toNat ≤ 2) && decide (value.toNat < 32) && decide (mask.toNat < 32)

/-- The initial trace settings of an image (R202). -/
def imgTrace (m : List Byte) : TraceSettings :=
  traceSettingsOf (m.getD 298 0) (m.getD 299 0) (m.getD 300 0) (m.getD 301 0) (m.getD 302 0) (m.getD 303 0)
    (m.getD 304 0)

/-- The CRC-16 of the bytes from `a` up to, not including, `b` of the image. -/
def imgCrc (m : List Byte) (a b : Nat) : Word16 := crc16 ((m.take b).drop a)

/-- The configuration that a passing image puts in force (R205). -/
def configOf (number : Station) (m : List Byte) : Loaded where
  image := m
  number := number
  profile := imgProfile m
  profileDigest := imgCrc m 3 231
  entry := imgEntry m number.val
  enables := m.getD 231 0
  masks := ofBe16 (m.getD 296 0) (m.getD 297 0) &&& maskableEvents
  trace := imgTrace m

/-! ## Judging an image (R204) -/

/-- A value lies in a range. -/
def within (lo hi v : Nat) : Bool := decide (lo ≤ v) && decide (v ≤ hi)

/-- The station positions are in range, unused ones 0 (R202). -/
def positionsOk (m : List Byte) : Bool :=
  (imgPositions m).zipIdx.all (fun (p, i) =>
    if i < imgByte m 3 then within 0 4095 p.1 && within 0 4095 p.2 else p.1 == 0 && p.2 == 0)

/-- The zones are in range, unused ones 0 (R202). -/
def zonesOk (m : List Byte) : Bool :=
  (imgZones m).zipIdx.all (fun (z, i) =>
    if i < imgByte m 132 then within 0 4095 z.cx && within 0 4095 z.cy && within 50 2000 z.radius
    else z.cx == 0 && z.cy == 0 && z.radius == 0)

/-- The sensing parameters are in range (R202, bytes 181 to 193). -/
def sensingOk (m : List Byte) : Bool :=
  within 10 100 (imgByte m 181) && within 10 2000 (imgWord m 182) && within 10 200 (imgByte m 184)
    && within 1 3 (imgByte m 185) && within 2 4 (imgByte m 186)
    && within 1 65535 (imgWord m 187) && decide (imgWord m 187 < imgWord m 189)
    && decide (imgWord m 189 < imgWord m 191) && within 0 60 (imgByte m 193)

/-- The line and time parameters are in range (R202, bytes 194 to 203). -/
def lineOk (m : List Byte) : Bool :=
  within 2 30 (imgByte m 194) && within 20 500 (imgWord m 195) && within 2 10 (imgByte m 197)
    && within 2 20 (imgByte m 198) && within 1 4 (imgByte m 199) && within 1 100 (imgByte m 200)
    && within 0 1 (imgByte m 201) && within 20 500 (imgWord m 202)

/-- The tracking and warning parameters are in range (R202, bytes 204 to 230). -/
def trackingOk (m : List Byte) : Bool :=
  within 50 1000 (imgWord m 204) && within 10 600 (imgWord m 206) && within 100 3000 (imgWord m 208)
    && within 10 400 (imgWord m 210) && within 500 3000 (imgWord m 212) && within 60 3600 (imgWord m 214)
    && within 0 1 (imgByte m 216) && within 30 900 (imgWord m 217) && within 10 600 (imgWord m 219)
    && within 10 900 (imgWord m 221) && within 10 1800 (imgWord m 223) && within 0 4095 (imgWord m 225)
    && within 0 1022 (imgWord m 227) && within 10 600 (imgWord m 229)

/-- The station table's zero bits are 0, and so are the entries of numbers N and above (R202). -/
def tableZerosOk (m : List Byte) : Bool :=
  (List.range 32).all (fun i =>
    if i < imgByte m 3 then decide (imgByte m (232 + 2 * i) < 4)
    else imgByte m (232 + 2 * i) == 0 && imgByte m (233 + 2 * i) == 0)

/-- The RANGE test (R204). -/
def rangeOk (m : List Byte) : Bool :=
  within 2 32 (imgByte m 3) && positionsOk m && within 0 8 (imgByte m 132) && zonesOk m && sensingOk m && lineOk m
    && trackingOk m && imgByte m 231 / 32 % 4 == 0 && tableZerosOk m
    && traceArgsOk (m.getD 298 0) (m.getD 301 0) (m.getD 302 0)

/-- The zones that a mask names. -/
def maskZones (mask : Byte) : List Nat := (List.range 8).filter mask.getLsbD

/-- A station table entry is not faulty, in a yard of `zoneCount` zones (R204). -/
def entryOk (zoneCount : Nat) (e : StationEntry) : Bool :=
  if e.edge then
    within 1 4 (maskZones e.zoneMask).length && (maskZones e.zoneMask).all (fun z => decide (z < zoneCount))
  else e.zoneMask == 0

/-- The TABLE test (R204). -/
def stationTableOk (m : List Byte) : Bool :=
  (List.range (imgByte m 3)).all (fun i => entryOk (imgByte m 132) (imgEntry m i))

/-- The reason of an attempt, none when it passes (R204). -/
def judgeImage (straps : Station) (m : List Byte) : LoadReason :=
  if imgCrc m 0 318 ≠ ofBe16 (m.getD 318 0) (m.getD 319 0) then .crc
  else if ¬(imgByte m 0 = 0x3A ∧ imgWord m 1 = 320) then .header
  else if !rangeOk m then .range
  else if imgByte m 3 ≤ straps.val then .strap
  else if !stationTableOk m then .table
  else .none

/-! ## Entering LISTENING (R62, R65, R66, R93, R113, R179, R205) -/

/-- The Sensor Front End as its first period begins (R62, R65, R66, R83). -/
def Sensor.started (periodT : Nat) (vane : BitVec 4) (dustReady : Bool) : Sensor :=
  { Sensor.restarted with vane := vane, dustReady := dustReady, notReady := !dustReady, periodLeft := some periodT }

/-- The Line Controller on entering LISTENING (R93, R113): the listen time is 2 × QUIET gap, in ticks. -/
def Line.listening (quietGapMs : Nat) : Line :=
  { Line.restarted with rx := .quietWait false, listenLeft := some (2 * quietGapMs / 10) }

/-- The Warning Unit on entering LISTENING: each channel is handed its wanted pattern (R179, R183). -/
def Warn.listening (w : Warn) : Warn := { w with gens := refreshGens w.zones w.gens }

/-- The station enters LISTENING under configuration `c`, every other block at its values after restart. -/
def enterListening (c : Loaded) (vane : BitVec 4) (dustReady : Bool) (s : State) : State :=
  let s1 := restartBlocks (some c) s
  { s1 with
    mode := .listening
    sensor := Sensor.started c.profile.samplePeriodT vane dustReady
    line := Line.listening c.profile.quietGapMs
    warn := s1.warn.listening }

/-! ## The load (R203 to R206) -/

/-- An attempt starts (R203): the attempt count rises and the straps are read. -/
def Loader.startAttempt (straps : Station) (l : Loader) : Loader :=
  { l with phase := .attempt, attempts := l.attempts + 1, strap := some straps }

/-- A successful attempt (R188, R205). The counters count on from LOADING. -/
def loadSucceeds (straps : Station) (image : List Byte) (vane : BitVec 4) (dustReady : Bool) (s : State) : State :=
  enterListening (configOf straps image) vane dustReady
    { s with
      loader := {
        phase := .settled
        attempts := s.loader.attempts
        reason := if s.loader.attempts = 1 then .none else s.loader.reason
        strap := some straps
        loaded := some (configOf straps image) }
      trace := { s.trace with settings := imgTrace image } }

/-- A failed attempt that is not the third (R203). -/
def loadFails (r : LoadReason) (straps : Station) (s : State) : State :=
  { s with loader := ⟨.retryDelay, s.loader.attempts, r, some straps, none⟩ }

/-- Entry into CONFIG FAULT after the third failed attempt (R206). -/
def enterConfigFault (r : LoadReason) (straps : Station) (s : State) : State :=
  raiseEvent .configFault { s with
    mode := .configFault
    loader := ⟨.settled, s.loader.attempts, r, some straps, none⟩ }

/-- An attempt of a load runs (R203). -/
def State.attemptRuns (s : State) : Bool := !s.resetHeld && s.mode == .loading && s.loader.phase == .attempt

/-- The end of an attempt that used strap number `straps` (R204 to R206). -/
def endAttempt (straps : Station) (image : List Byte) (vane : BitVec 4) (dustReady : Bool) (s : State) : State :=
  if judgeImage straps image = .none then loadSucceeds straps image vane dustReady s
  else if s.loader.attempts < 3 then loadFails (judgeImage straps image) straps s
  else enterConfigFault (judgeImage straps image) straps s

/-- LOAD_ATTEMPT_END (R204), by the number read as the attempt started. `straps` are the levels of the pins from here
on, which a later start reads (R203, log 48). -/
def execLoadAttemptEnd (straps : Station) (image : List Byte) (vane : BitVec 4) (dustReady : Bool) (s : State) :
    Host.Outcome State Fault Refusal :=
  .next (match s.attemptRuns, s.loader.strap with
    | true, some n => endAttempt n image vane dustReady { s with straps := straps }
    | _, _ => s)

/-- LOAD_RETRY_DELAY_EXPIRY (R203). -/
def execLoadRetryDelayExpiry (straps : Station) (s : State) : Host.Outcome State Fault Refusal :=
  .next (if s.mode = .loading ∧ s.loader.phase = .retryDelay ∧ s.resetHeld = false then
      { s with straps := straps, loader := s.loader.startAttempt straps }
    else s)

/-! ## Cold restart (R207, R208) -/

/-- A cold restart, with the RESET input at the level given: every block at its cold values (R207). The strap pins keep
their levels, and the model's queue and its count of free values go on. -/
def coldRestart (resetHeld : Bool) (s : State) : State :=
  { State.reset with
    resetHeld := resetHeld
    straps := s.straps
    freeCount := s.freeCount
    pending := s.pending }

/-- A cold restart that has ended: the first attempt of its load has started (R203, R207, R208). -/
def coldStart (s : State) : State := { coldRestart false s with loader := Loader.cold.startAttempt s.straps }

/-- POWER_ON (R207). With RESET held the cold restart does not end (R208, log 31). -/
def execPowerOn (s : State) : Host.Outcome State Fault Refusal :=
  .next (if s.resetHeld then coldRestart true s else coldStart s)

/-- RESET_ASSERTED (R208). -/
def execResetAsserted (s : State) : Host.Outcome State Fault Refusal := .next (coldRestart true s)

/-- RESET_RELEASED (R208): the device, held in cold restart until now, begins its load. -/
def execResetReleased (s : State) : Host.Outcome State Fault Refusal :=
  .next (if s.resetHeld then coldStart s else s)

/-! ## Warm restart (R188, R199) -/

/-- The RESTART entry (R185, R188). -/
def State.restartEntry (s : State) : TraceEntry := s.entryFor .restart none none .none

/-- The Line Trace at a warm restart (R188). -/
def State.restartTrace (s : State) : Trace :=
  { s.trace with
    ring := if s.trace.frozen then s.trace.ring else pushEntry s.trace.ring s.restartEntry
    frozen := true
    reason := if s.trace.frozen then s.trace.reason else some .restart }

/-- The Timebase at a warm restart (R164). -/
def Timebase.warm (t : Timebase) : Timebase :=
  { t with
    yardClock := t.localTick
    firstAdoption := true
    calibLeft := none
    wake := none
    acc := 0
    capAcc := 0 }

/-- The Panel Port at a warm restart (R200, R207): RESTARTED alone is pending, and the transaction has ended. -/
def Panel.warm (p : Panel) : Panel :=
  { p with events := StatusEvent.restarted.mask, incoming := none, restartTaken := false }

/-- What both kinds of warm restart write (R164, R188, R191, R200). -/
def warmValues (s : State) : State :=
  { s with
    trace := s.restartTrace
    time := s.time.warm
    counters := Counters.zero
    panel := s.panel.warm }

/-- The loader as a new load begins with its first attempt (R199, R203). -/
def Loader.reload (straps : Station) (l : Loader) : Loader :=
  { l with attempts := 0, loaded := none }.startAttempt straps

/-- A warm restart (R199): the station enters LISTENING under its configuration, or, without one, loads again. -/
def warmRestart (vane : BitVec 4) (dustReady : Bool) (s : State) : State :=
  match s.loader.loaded with
  | some c => enterListening c vane dustReady (warmValues s)
  | none => { restartBlocks none (warmValues s) with mode := .loading, loader := s.loader.reload s.straps }

/-- WARM_RESTART (R199). -/
def execWarmRestart (vane : BitVec 4) (dustReady : Bool) (s : State) : Host.Outcome State Fault Refusal :=
  .next (if s.panel.restartTaken ∧ s.resetHeld = false then warmRestart vane dustReady s else s)

end Sys2Proof.Machine
end

