-- ==== Sys2Proof/Machine/Panel.lean ====
section
/-! DEFINITION. The Panel Port (R193 to R201): how a taken command is judged and answered, and the panel commands. -/

namespace Sys2Proof.Machine

/-! ## Judging and answering (R193, R194) -/

/-- The result byte OK (R193). -/
def resultOk : Byte := 1

/-- The result byte REJECTED (R193). -/
def resultRejected : Byte := 2

/-- The result byte NOT_READY (R193). -/
def resultNotReady : Byte := 3

/-- The response of a taken command is captured (R193). -/
def respond (r : List Byte) (s : State) : State := { s with panel := { s.panel with response := r } }

/-- The answer OK with data. -/
def answerOk (data : List Byte) (s : State) : State := respond (resultOk :: data) s

/-- The answer REJECTED, which carries no data. -/
def answerRejected (s : State) : State := respond [resultRejected] s

/-- A command with these arguments is taken: with its code and its count they are the incoming bytes of the transaction
in progress (R193, log 44). -/
def noteTaken (args : List Byte) (s : State) : State :=
  { s with panel := { s.panel with incoming := some (args.length + 2) } }

/-- The station serves the commands other than READ STATUS and RESTART (R194). -/
def State.serves (s : State) : Bool :=
  match s.mode with
  | .loading | .configFault => false
  | .listening | .active | .resync | .mute | .lull => true

/-- The station serves a RESTART (R194). -/
def State.servesRestart (s : State) : Bool := s.mode != .loading

/-- A taken command under tests 2 and 3 of R194; `body` is its answer and effect under the later tests. Nothing is taken
while RESET is held (log 31). -/
def serve (served : Bool) (count : Nat) (args : List Byte) (body : State) (s : State) : State :=
  if s.resetHeld then s
  else
    noteTaken args (if !served then respond [resultNotReady] s
      else if args.length ≠ count then answerRejected s
      else body)

/-- A reading command: the data, or REJECTED where there are none (R194, R195). -/
def answerRead (data : Option (List Byte)) (s : State) : State :=
  match data with
  | some d => answerOk d s
  | none => answerRejected s

/-- The argument at a position, as a number. -/
def argAt (args : List Byte) (i : Nat) : Nat := (args.getD i 0).toNat

/-- PANEL_TRANSACTION_CUT (R193): counted, and the transaction, whose command was not taken, has ended. -/
def execPanelTransactionCut (s : State) : Host.Outcome State Fault Refusal :=
  .next (if s.resetHeld then s
    else
      { s with
        counters := { s.counters with panelCut := satInc s.counters.panelCut }
        panel := { s.panel with incoming := none } })

/-- The command codes that the Panel Port knows (R195). -/
def panelCodes : List Byte :=
  [0x10, 0x11, 0x20, 0x21, 0x22, 0x23, 0x30, 0x31, 0x40, 0x41, 0x50, 0x51, 0x60, 0x7E]

/-- PANEL_UNKNOWN_COMMAND (R194): a code of R195 is not unknown. -/
def execPanelUnknownCommand (code : Byte) (args : List Byte) (s : State) : Host.Outcome State Fault Refusal :=
  .next (if s.resetHeld || panelCodes.contains code then s else noteTaken args (answerRejected s))

/-! ## READ STATUS (R196) -/

/-- The station state's code (R196). -/
def Mode.code : Mode → Byte
  | .loading => 0
  | .configFault => 1
  | .listening => 2
  | .active => 3
  | .resync => 4
  | .mute => 5
  | .lull => 6

/-- The MUTE reason's code (R196). -/
def muteCode : Option MuteReason → Byte
  | none => 0
  | some .duplicate => 1
  | some .markContention => 2

/-- The opportunity counter's code (R196, R197). -/
def Opp.code : Opp → Byte
  | .number k => byteOf k
  | .ended => 0xFE
  | .none => 0xFF

/-- The load reason's code (R196). -/
def LoadReason.code : LoadReason → Byte
  | .none => 0
  | .crc => 1
  | .header => 2
  | .range => 3
  | .strap => 4
  | .table => 5

/-- The 26 bytes of READ STATUS (R196). -/
def State.statusBytes (s : State) : List Byte :=
  be16 s.panel.events
    ++ [s.mode.code, muteCode s.line.muteReason,
        (match s.loader.strap with | some i => byteOf i.val | none => 0xFF),
        s.agree.state.code, flagByte s.agree.installed, s.agree.runCount, s.line.cadence.code,
        flagByte s.roster.lineLost]
    ++ be16 s.line.cycle
    ++ [s.line.opp.code, flagByte s.table.fusedThrough.isSome]
    ++ be16 (s.table.fusedThrough.getD 0)
    ++ be32 s.time.yardClock ++ be32 s.time.localTick
    ++ [byteOf s.loader.attempts, s.loader.reason.code]

/-- READ_STATUS (R196), served in every state. -/
def execReadStatus (args : List Byte) (s : State) : Host.Outcome State Fault Refusal :=
  .next (serve true 0 args (answerOk s.statusBytes s) s)

/-- CLEAR_STATUS (R200). -/
def execClearStatus (args : List Byte) (s : State) : Host.Outcome State Fault Refusal :=
  .next (serve s.serves 2 args
    (answerOk [] { s with panel := { s.panel with
        events := s.panel.events &&& ~~~(ofBe16 (args.getD 0 0) (args.getD 1 0)) } }) s)

/-! ## READ FRONT (R18, R197) -/

/-- An arrival item's 5 bytes (R197). -/
def Arrival.bytes : Arrival → List Byte
  | .time t => 0 :: be32 t
  | .beyond => 1 :: be32 0
  | .receding => 2 :: be32 0
  | .none => 3 :: be32 0

/-- The arrival item of zone `z`, kind 4 at and above the zone count (R197). -/
def arrivalBytes (zoneCount : Nat) (items : List Arrival) (z : Nat) : List Byte :=
  if z < zoneCount then (items.getD z .none).bytes else 4 :: be32 0

/-- The entry at a position of a track list, 00h beyond the count (R197). -/
def trackBytes (track : List Entry) (i : Nat) : List Byte :=
  match track[i]? with
  | some e => entryBytes e
  | none => List.replicate 8 0

/-- The 97 bytes of a slot (R197). -/
def frontData (zoneCount : Nat) (f : Front) : List Byte :=
  recordFixed f ++ (List.range 6).flatMap (trackBytes f.track) ++ [dustCode f.dustI] ++ be16 (speedCode f.peakI)
    ++ (List.range 8).flatMap (arrivalBytes zoneCount f.arrivals)

/-- The data of READ FRONT (R18, R197). -/
def State.frontAnswer (s : State) (slot : Nat) : Option (List Byte) :=
  (s.table.slots[slot]?).map (fun f => flagByte s.fusion.fusing.isSome :: frontData s.profile.zoneCount f)

/-- READ_FRONT (R18). -/
def execReadFront (args : List Byte) (s : State) : Host.Outcome State Fault Refusal :=
  .next (serve s.serves 1 args (answerRead (s.frontAnswer (argAt args 0)) s) s)

/-! ## READ ROSTER (R126, R197) -/

/-- A roster state's code (R197). -/
def RosterState.code : RosterState → Byte
  | .unknown => 0
  | .present => 1
  | .silent => 2
  | .absent => 3

/-- A profile match's code (R197). -/
def ProfileMatch.code : ProfileMatch → Byte
  | .unknown => 0
  | .same => 1
  | .mismatch => 2

/-- The 24 bytes of an entry (R197). -/
def RosterEntry.bytes (e : RosterEntry) : List Byte :=
  [e.state.code, e.unheard, flagByte e.heard, flagByte e.takenIn.isSome] ++ be16 (e.takenIn.getD 0) ++ [e.profile.code]
    ++ (match e.last with | some p => presencePayload p | none => List.replicate 17 0)

/-- READ_ROSTER (R126). -/
def execReadRoster (args : List Byte) (s : State) : Host.Outcome State Fault Refusal :=
  .next (serve s.serves 1 args (answerRead ((s.roster.entries[argAt args 0]?).map RosterEntry.bytes) s) s)

/-! ## READ ZONE and ACKNOWLEDGE ZONE (R172, R182, R197, R198) -/

/-- The three bytes of a driving source (R197). -/
def Source.bytes : Source → List Byte
  | .none => [0, 0xFF, 0]
  | .front slot id => [1, byteOf slot, id]
  | .ownGust => [2, 0xFF, 0]

/-- The 10 bytes of a zone record (R197). -/
def Zone.bytes (z : Zone) : List Byte :=
  [byteOf z.zone.val, z.level.code] ++ z.source.bytes ++ [flagByte z.hold.isSome]
    ++ be16 (BitVec.ofNat 16 (z.hold.getD 0)) ++ [flagByte z.ack, flagByte z.degraded]

/-- READ_ZONE (R182). -/
def execReadZone (args : List Byte) (s : State) : Host.Outcome State Fault Refusal :=
  .next (serve s.serves 1 args (answerRead ((s.warn.zones[argAt args 0]?).map Zone.bytes) s) s)

/-- A channel's zone is at ALARM (R172). -/
def State.acknowledgeable (s : State) (k : Nat) : Bool :=
  match s.warn.zones[k]? with
  | some z => z.level == .alarm
  | none => false

/-- A channel is acknowledged (R172). -/
def acknowledge (k : Nat) (s : State) : State :=
  { s with warn := { s.warn with zones := s.warn.zones.modify k (fun z => { z with ack := true }) } }

/-- The judgement of an ACKNOWLEDGE ZONE (R172, R198). -/
def judgeAcknowledge (k : Nat) (s : State) : State :=
  if s.acknowledgeable k then answerOk [] (acknowledge k s) else answerRejected s

/-- ACKNOWLEDGE_ZONE (R172): in LULL it wakes the station whatever its result (R160, R194). R160 and R172 take every
owned zone as CLEAR in LULL; where an evaluation made in LULL (R181) has raised one to ALARM, the model judges it as
anywhere else and accepts (log 45). -/
def execAcknowledgeZone (args : List Byte) (s : State) : Host.Outcome State Fault Refusal :=
  .next (serve s.serves 1 args (judgeAcknowledge (argAt args 0) (wakeIfLull s)) (wakeIfLull s))

/-! ## READ EXCEPTION and CLEAR EXCEPTION (R59, R60, R197) -/

/-- The 15 bytes of the exception record (R197). -/
def ExcRecord.bytes (r : ExcRecord) : List Byte :=
  [flagByte r.pending, (match r.lastCode with | some c => byteOf c.number | none => 0), r.frontId.getD 0,
    (match r.slot with | some i => byteOf i | none => 0xFF), flagByte r.sighting.isSome]
    ++ (match r.sighting with | some (i, id) => [byteOf i.val, id] | none => [0, 0])
    ++ [flagByte r.label.isSome] ++ be16 (r.label.getD 0) ++ be32 r.raw ++ [r.count]

/-- READ_EXCEPTION (R59). -/
def execReadException (args : List Byte) (s : State) : Host.Outcome State Fault Refusal :=
  .next (serve s.serves 0 args (answerOk s.exc.bytes s) s)

/-- CLEAR_EXCEPTION (R60). -/
def execClearException (args : List Byte) (s : State) : Host.Outcome State Fault Refusal :=
  .next (serve s.serves 0 args (answerOk [] { s with exc := { s.exc with pending := false, count := 0 } }) s)

/-! ## READ TRACE and ARM TRACE (R189, R190, R197) -/

/-- The position of a rejection reason in its list (R185, R197). -/
def RejectReason.code : RejectReason → Byte
  | .check => 0
  | .length => 1
  | .source => 2
  | .own => 3
  | .field => 4

/-- The position of a discard reason in its list (R185, R197). -/
def DiscardReason.code : DiscardReason → Byte
  | .mismatch => 0
  | .repeated => 1
  | .incomplete => 2
  | .idClash => 3
  | .digest => 4
  | .stale => 5

/-- The two bytes of a detail (R197). -/
def Detail.bytes : Detail → List Byte
  | .none => [0xFF, 0xFF]
  | .sid id => [0, id]
  | .count n => be16 (BitVec.ofNat 16 n)
  | .reject r => [0, r.code]
  | .opp o => [0, o.code]
  | .discard r => [0, r.code]

/-- The 12 bytes of a trace entry (R197). -/
def TraceEntry.bytes (e : TraceEntry) : List Byte :=
  be32 e.tick ++ be16 e.cycle
    ++ [e.opp.code, byteOf e.kind.bit, (match e.source with | some i => byteOf i.val | none => 0xFF),
        (match e.frame with | some k => k.code | none => 0xFF)]
    ++ e.detail.bytes

/-- The 16 bytes of READ TRACE (R190, R197). -/
def Trace.bytes (t : Trace) (i : Nat) : List Byte :=
  [byteOf t.ring.length, flagByte t.frozen, (match t.reason with | some k => byteOf k.bit | none => 0xFF)]
    ++ (match t.ring[i]? with | some e => 1 :: e.bytes | none => 0 :: List.replicate 12 0)

/-- READ_TRACE (R190). -/
def execReadTrace (args : List Byte) (s : State) : Host.Outcome State Fault Refusal :=
  .next (serve s.serves 1 args
    (answerRead (if argAt args 0 < 48 then some (s.trace.bytes (argAt args 0)) else none) s) s)

/-- The Line Trace after an ARM TRACE with the empty option or without it (R189). -/
def Trace.arm (t : Trace) (settings : TraceSettings) (empty : Bool) : Trace where
  ring := if empty then [] else t.ring
  frozen := !empty && t.frozen
  reason := if empty then none else t.reason
  settings := settings

/-- The judgement of an ARM TRACE by its eight arguments (R189, R195, R198). -/
def judgeArm (args : List Byte) (s : State) : State :=
  if traceArgsOk (args.getD 0 0) (args.getD 3 0) (args.getD 4 0) then
    answerOk [] { s with
      trace := s.trace.arm
        (traceSettingsOf (args.getD 0 0) (args.getD 1 0) (args.getD 2 0) (args.getD 3 0) (args.getD 4 0)
          (args.getD 5 0) (args.getD 6 0))
        ((args.getD 7 0).getLsbD 0) }
  else answerRejected s

/-- ARM_TRACE (R189). -/
def execArmTrace (args : List Byte) (s : State) : Host.Outcome State Fault Refusal :=
  .next (serve s.serves 8 args (judgeArm args s) s)

/-! ## Counters (R191, R192) -/

/-- The counters of a group, in their order (R191). -/
def Counters.group (c : Counters) : Nat → Option (List Word16)
  | 0 => some [c.framesTaken, c.checkRejections, c.lengthRejections, c.sourceRejections, c.ownRejections,
      c.fieldRejections, c.echoFailures, c.framesDropped, c.markCollisions, c.marksOpened, c.slotDisagreements,
      c.burstCuts]
  | 1 => some [c.sightingsRefused, c.unplaced, c.subsideUnmatched, c.fusionOverruns, c.transfersSent,
      c.transfersInstalled, c.transfersDiscarded, c.transfersIgnored]
  | 2 => some [c.anemometerChatter, c.vaneFaults, c.outboundRefused, c.clockSteps, c.missedMarks,
      c.calibrationRejects, c.panelCut]
  | 3 => some [c.disabledUnset, c.disabledZero, c.disabledCeiling, c.disabledFloor, c.disabledHorizon]
  | _ => none

/-- READ_COUNTERS (R191). -/
def execReadCounters (args : List Byte) (s : State) : Host.Outcome State Fault Refusal :=
  .next (serve s.serves 1 args (answerRead ((s.counters.group (argAt args 0)).map (·.flatMap be16)) s) s)

/-- CLEAR_COUNTERS (R192). -/
def execClearCounters (args : List Byte) (s : State) : Host.Outcome State Fault Refusal :=
  .next (serve s.serves 0 args (answerOk [] { s with counters := Counters.zero }) s)

/-! ## READ CONFIG and RESTART (R197, R199) -/

/-- The 9 bytes of READ CONFIG (R197). -/
def Loaded.bytes (c : Loaded) : List Byte :=
  [byteOf c.number.val, flagByte c.entry.edge, c.entry.zoneMask, flagByte c.entry.onLow] ++ be16 c.profileDigest
    ++ [c.enables] ++ be16 c.masks

/-- READ_CONFIG (R197). -/
def execReadConfig (args : List Byte) (s : State) : Host.Outcome State Fault Refusal :=
  .next (serve s.serves 0 args (answerRead (s.loader.loaded.map Loaded.bytes) s) s)

/-- RESTART (R199): answered OK, it orders the warm restart that SEL's release begins; in LULL it wakes the station
whatever its result (R160, R194). -/
def execRestart (args : List Byte) (s : State) : Host.Outcome State Fault Refusal :=
  .next (serve s.servesRestart 0 args
    (answerOk [] { wakeIfLull s with panel := { s.panel with restartTaken := true } }) (wakeIfLull s))

end Sys2Proof.Machine
end

