-- ==== Sys2Proof/Machine/Dispatch.lean ====
section
/-! DEFINITION. One meaning for each command. -/

namespace Sys2Proof.Machine

/-- The effect of a command on everything but the queue. -/
def exec (i : Instr) (s : State) : Host.Outcome State Fault Refusal :=
  match i with
  | .powerOn => Sys2Proof.Machine.execPowerOn s
  | .resetAsserted => Sys2Proof.Machine.execResetAsserted s
  | .resetReleased => Sys2Proof.Machine.execResetReleased s
  | .loadAttemptEnd straps image vane dustReady => Sys2Proof.Machine.execLoadAttemptEnd straps image vane dustReady s
  | .loadRetryDelayExpiry straps => Sys2Proof.Machine.execLoadRetryDelayExpiry straps s
  | .panelTransactionCut => Sys2Proof.Machine.execPanelTransactionCut s
  | .panelUnknownCommand code args => Sys2Proof.Machine.execPanelUnknownCommand code args s
  | .readStatus args => Sys2Proof.Machine.execReadStatus args s
  | .clearStatus args => Sys2Proof.Machine.execClearStatus args s
  | .readFront args => Sys2Proof.Machine.execReadFront args s
  | .readRoster args => Sys2Proof.Machine.execReadRoster args s
  | .readZone args => Sys2Proof.Machine.execReadZone args s
  | .acknowledgeZone args => Sys2Proof.Machine.execAcknowledgeZone args s
  | .readException args => Sys2Proof.Machine.execReadException args s
  | .clearException args => Sys2Proof.Machine.execClearException args s
  | .readTrace args => Sys2Proof.Machine.execReadTrace args s
  | .armTrace args => Sys2Proof.Machine.execArmTrace args s
  | .readCounters args => Sys2Proof.Machine.execReadCounters args s
  | .clearCounters args => Sys2Proof.Machine.execClearCounters args s
  | .readConfig args => Sys2Proof.Machine.execReadConfig args s
  | .restart args => Sys2Proof.Machine.execRestart args s
  | .warmRestart vane dustReady => Sys2Proof.Machine.execWarmRestart vane dustReady s
  | .anemometerEdge offset => Sys2Proof.Machine.execAnemometerEdge offset s
  | .vaneCodeChange code => Sys2Proof.Machine.execVaneCodeChange code s
  | .dustPulse => Sys2Proof.Machine.execDustPulse s
  | .dustReadyLow => Sys2Proof.Machine.execDustReadyLow s
  | .samplePeriodEnd dustReady => Sys2Proof.Machine.execSamplePeriodEnd dustReady s
  | .refractoryExpiry => Sys2Proof.Machine.execRefractoryExpiry s
  | .listenTimerExpiry => Sys2Proof.Machine.execListenTimerExpiry s
  | .openTimerExpiry => Sys2Proof.Machine.execOpenTimerExpiry s
  | .receiverQuietWaitEnd => Sys2Proof.Machine.execReceiverQuietWaitEnd s
  | .silenceTimeout => Sys2Proof.Machine.execSilenceTimeout s
  | .planFix => Sys2Proof.Machine.execPlanFix s
  | .nextFrameStart => Sys2Proof.Machine.execNextFrameStart s
  | .frameRepeat => Sys2Proof.Machine.execFrameRepeat s
  | .markReceived frame => Sys2Proof.Machine.execMarkReceived frame s
  | .presenceReceived frame => Sys2Proof.Machine.execPresenceReceived frame s
  | .sightingReceived frame => Sys2Proof.Machine.execSightingReceived frame s
  | .transferReceived frame => Sys2Proof.Machine.execTransferReceived frame s
  | .frameRejected frame => Sys2Proof.Machine.execFrameRejected frame s
  | .echoFail => Sys2Proof.Machine.execEchoFail s
  | .markCollision => Sys2Proof.Machine.execMarkCollision s
  | .markSent => Sys2Proof.Machine.execMarkSent s
  | .frameSent => Sys2Proof.Machine.execFrameSent s
  | .sightingStepEnd => Sys2Proof.Machine.execSightingStepEnd s
  | .closingStepEnd => Sys2Proof.Machine.execClosingStepEnd s
  | .perSecondEvaluation => Sys2Proof.Machine.execPerSecondEvaluation s
  | .holdExpiry channel => Sys2Proof.Machine.execHoldExpiry channel s
  | .patternPeriodEnd channel => Sys2Proof.Machine.execPatternPeriodEnd channel s
  | .calibrationWindowEnd count => Sys2Proof.Machine.execCalibrationWindowEnd count s
  | .wakeTimerExpiry => Sys2Proof.Machine.execWakeTimerExpiry s
  | .localTick => Sys2Proof.Machine.execLocalTick s
  | .frameStart => Sys2Proof.Machine.execFrameStart s

end Sys2Proof.Machine
end

