-- ==== Sys2Proof/Machine/Pins.lean ====
section
/-! DEFINITION. The output lines as views of the state (R85, R93, R178 to R181, R193, R201, R203, R208): what the outside
world reads. A level that the book does not state is none (log 47). -/

namespace Sys2Proof.Machine

/-- The level of an output line: released, or driven low or high. -/
inductive PinLevel where
  | released | low | high
  deriving DecidableEq, Repr

/-- A line driven high or low. -/
def PinLevel.drive (b : Bool) : PinLevel := if b then .high else .low

/-- The warning outputs are driven (R179, R208). -/
def State.drivesOutputs (s : State) : Bool := s.runs

/-- The lamp polarity is ON-LOW (R178); ON-HIGH with no configuration in force (log 27), where no lamp line is driven. -/
def State.onLow (s : State) : Bool :=
  match s.loader.loaded with
  | some c => c.entry.onLow
  | none => false

/-- The pattern output of a generator (R176). -/
def Gen.output (g : Gen) : Bool := g.running && decide (g.counter < g.shown.onTime)

/-- The lamp of a channel is on: its zone is assigned and its generator's output is on (R178). -/
def State.lampOn (s : State) (k : Fin 4) : Bool :=
  (s.warn.zones[k.val]?).isSome && (match s.warn.gens[k.val]? with | some g => g.output | none => false)

/-- The lamp line of a channel (R178, R179). -/
def State.lampLine (s : State) (k : Fin 4) : PinLevel :=
  if s.drivesOutputs then .drive (s.lampOn k != s.onLow) else .released

/-- The siren of a channel is on: its zone is at ALARM and not acknowledged, outside LULL (R180, R181). -/
def State.sirenOn (s : State) (k : Fin 4) : Bool :=
  (match s.warn.zones[k.val]? with | some z => z.level == .alarm && !z.ack | none => false) && s.mode != .lull

/-- The siren line of a channel (R178 to R181). -/
def State.sirenLine (s : State) (k : Fin 4) : PinLevel :=
  if s.drivesOutputs then .drive (s.sirenOn k) else .released

/-- The attention output: low while asserted (R201), released while RESET is held (R208). -/
def State.attnLine (s : State) : PinLevel := if s.resetHeld then .released else .drive (!s.attn)

/-- The transmit enable output is active (R85, R93). -/
def State.transmitting (s : State) : Bool := !s.resetHeld && s.line.tx.isSome

/-- A transmit enable output: released, or driven inactive or active. -/
inductive EnableLevel where
  | released | inactive | active
  deriving DecidableEq, Repr

/-- The transmit enable output TXEN (R93, R203, R206, R208). -/
def State.txen (s : State) : EnableLevel :=
  if s.resetHeld then .released else if s.transmitting then .active else .inactive

/-- The bits of the frame on the line, in the order they are driven (R85, R86). -/
def State.lineBits (s : State) : List Bool :=
  match s.line.tx with
  | some t => (frameBytes s.profile.stations s.own t.final t.body).flatMap charBits
  | none => []

/-- A level of the yard line (R85). -/
inductive LineLevel where
  | released | space | mark
  deriving DecidableEq, Repr

/-- A line that carries a bit. -/
def LineLevel.drive (b : Bool) : LineLevel := if b then .mark else .space

/-- The transmit data output TXD at bit `i` of the frame being sent (R85, R208, log 47). -/
def State.txd (s : State) (i : Nat) : Option LineLevel :=
  if s.resetHeld then some .released
  else if s.transmitting then (s.lineBits[i]?).map .drive
  else none

/-- The byte at position `pos` of a panel transaction on SDO, none while SDO is not driven (R193, R208): 00h until the
command is taken, then the captured response from the byte after the last argument on, and 00h after it (log 44). -/
def State.sdo (s : State) (selLow taken : Bool) (pos : Nat) : Option Byte :=
  if s.resetHeld || !selLow then none
  else
    match taken, s.panel.incoming with
    | true, some n => some (if pos < n then 0 else s.panel.response.getD (pos - n) 0)
    | _, _ => some 0

/-- The memory select CSEL: low during an attempt, else released (R203, R208, log 47). -/
def State.cselLine (s : State) : PinLevel := if s.attemptRuns then .low else .released

/-- The read request of an attempt, 03h and the address 0000h (R203). -/
def readRequest : List Byte := [0x03, 0x00, 0x00]

/-- The bits of a byte, most significant bit first (R203). -/
def bitsMsbFirst (b : Byte) : List Bool := (List.range 8).map (fun i => b.getMsbD i)

/-- The memory data output CDO at bit `i` of an attempt (R203, R208, log 47). -/
def State.cdo (s : State) (i : Nat) : Option PinLevel :=
  if s.resetHeld then some .released
  else if s.attemptRuns then ((readRequest.flatMap bitsMsbFirst)[i]?).map .drive
  else none

/-- The memory clock CCK: released while RESET is held (R208); its edges are pin timing (log 47). -/
def State.cck (s : State) : Option PinLevel := if s.resetHeld then some .released else none

end Sys2Proof.Machine
end

