-- ==== Sys2Proof/Safety.lean ====
section
/-! DEFINITION. What is to hold in every state that a step reaches: the bounds that the book puts on what each block
holds, and what the station may transmit. -/

namespace Sys2Proof.Machine

/-- The bounds on the buffers (R1, R20, R67, R77, R78, R115, R125, R130, R165, R176, R184), with the configuration that
gives two of them: the modes that run have one in force, which passed every test (R204, R205). -/
structure Bounded (s : State) : Prop where
  inForce : s.loader.loaded.isSome = s.mode.runs
  passed : ∀ c, s.loader.loaded = some c → judgeImage c.number c.image = .none ∧ c = configOf c.number c.image
  slots : s.table.slots.length = 8
  openLabel : ∀ l, s.fusion.openLabel = some l → l.sightings.length ≤ 32
  window : s.detector.window.length = 16
  priming : s.detector.priming ≤ 16
  dustRun : s.detector.dustRun ≤ 8
  vaneRun : s.detector.vaneRun ≤ 8
  outbound : s.outbound.length ≤ 8
  entries : s.roster.entries.length = s.profile.stations
  quietRun : s.roster.quietRun ≤ 3
  history : s.agree.history.length ≤ 4
  zones : s.warn.zones.length ≤ 4
  gens : s.warn.gens.length = 4
  ring : s.trace.ring.length ≤ 48

/-- Who may transmit (R93): nothing in LOADING, CONFIG FAULT, MUTE and LULL, and a frame other than a MARK only in ACTIVE
and in the own opportunity. A plan stands only there too (R101, R103), and MUTE has no open timer (R98, R108). -/
structure LineDiscipline (s : State) : Prop where
  silent : s.line.tx.isSome → s.mode = .listening ∨ s.mode = .active ∨ s.mode = .resync
  ownOpportunity : ∀ t, s.line.tx = some t → t.body.kind ≠ .mark →
    s.mode = .active ∧ s.line.opp = .number s.own.val
  planned : s.line.plan.isSome → s.mode = .active ∧ s.line.opp = .number s.own.val
  muteTimer : s.mode = .mute → s.line.openTimer = .stopped

end Sys2Proof.Machine
end

