-- ==== Sys2Proof/Certificates/Slice0/Obligations.lean ====
section
/-! DEFINITION. The statements about the FK-320 for the provers, in the order of OBLIGATIONS.json. -/

open Sys2Proof Sys2Proof.Machine

/-- For every command and state, a step of the state with the command put at the front of its queue is the command's
effect on the state with the queue's rest. On an empty queue the block idles (model's choice, log 1). Every command
answers a next state with the queue as it was: the book gives the device no state in which it stops. -/
def Obligations.StepRunsTheFrontCommand : Prop :=
  ((∀ (c : Instr) (s : State), step { s with pending := c :: s.pending } = exec c s)
    ∧ ∀ s : State, s.pending = [] → step s = .next s)
  ∧ (∀ (c : Instr) (s : State), ∃ t, exec c s = .next t ∧ t.pending = s.pending)

/-- POWER_ON and RESET_ASSERTED give the reset state, keeping the levels of the strap pins, the queue and the count of
free values (the last two the model's own). RESET_ASSERTED leaves RESET held, as POWER_ON does where it is held (the
model's reading, log 31). POWER_ON otherwise, and RESET_RELEASED where RESET is held, also start the load's first
attempt: count 1 and the strap pins read (logs 4, 48). That a RESET_RELEASED where RESET is not held leaves the state
as it is, is the model's choice for a command that the state rules out (log 2). While RESET is held every output is
released: TXD, TXEN, the lamps and sirens, SDO, ATTN, CSEL, CCK and CDO. After a cold restart: LOADING, attempt count
0, reason none, no image, no station number; RESTARTED alone pending and ATTN asserted; the Front Table, queues,
exception record, digest history, trace ring and counters empty; the agreement state JOINING; the clocks 0 with the
first-adoption mark set; the calibrated rate 16384 and the lull clock good mark clear. Of the reset state the vane
code, the ready level, the capture clock, the stamps and dust counts of the empty Samples and the captured response
are the model's own values (log 29), and so is it that a response and a waiting RESTART are dropped (log 39). -/
def Obligations.ColdRestartGivesTheColdValues : Prop :=
  ((∀ s : State,
    (s.resetHeld = false → exec .powerOn s = .next { State.reset with
        straps := s.straps, loader := ⟨.attempt, 1, .none, some s.straps, none⟩
        freeCount := s.freeCount, pending := s.pending })
      ∧ (s.resetHeld = true →
        exec .powerOn s = .next { State.reset with
          resetHeld := true, straps := s.straps, freeCount := s.freeCount, pending := s.pending }
        ∧ exec .resetReleased s = .next { State.reset with
          straps := s.straps, loader := ⟨.attempt, 1, .none, some s.straps, none⟩
          freeCount := s.freeCount, pending := s.pending })
      ∧ exec .resetAsserted s = .next { State.reset with
          resetHeld := true, straps := s.straps, freeCount := s.freeCount, pending := s.pending }
      ∧ (s.resetHeld = false → exec .resetReleased s = .next s))
    ∧ ∀ s : State, s.resetHeld = true →
      (∀ k, s.lampLine k = .released ∧ s.sirenLine k = .released) ∧ s.attnLine = .released ∧ s.txen = .released
      ∧ (∀ i, s.txd i = some .released ∧ s.cdo i = some .released) ∧ s.cselLine = .released
      ∧ s.cck = some .released ∧ ∀ selLow taken pos, s.sdo selLow taken pos = none)
  ∧ (State.reset.mode = .loading ∧ State.reset.loader = ⟨.waiting, 0, .none, none, none⟩
    ∧ State.reset.panel.events = 1 ∧ State.reset.panel.restartTaken = false ∧ State.reset.attn = true
    ∧ (∀ f ∈ State.reset.table.slots, f.state = .free) ∧ State.reset.table.slots.length = 8
    ∧ State.reset.table.nextId = 1 ∧ State.reset.table.fusedThrough = none
    ∧ State.reset.fusion = ⟨none, none, none, false⟩ ∧ State.reset.exc = ⟨false, none, none, none, none, none, 0, 0⟩
    ∧ State.reset.outbound = [] ∧ State.reset.detector.state = .calm ∧ State.reset.detector.priming = 0
    ∧ State.reset.detector.nextSid = 0 ∧ State.reset.detector.sensorFault = false
    ∧ State.reset.line.muteReason = none ∧ State.reset.line.cycle = 0 ∧ State.reset.line.cadence = .quiet
    ∧ State.reset.line.opp = .none ∧ State.reset.line.tx = none ∧ State.reset.line.plan = none
    ∧ State.reset.agree.state = .joining ∧ State.reset.agree.history = [] ∧ State.reset.agree.group = []
    ∧ State.reset.agree.runCount = 0 ∧ State.reset.agree.installed = false
    ∧ State.reset.time.localTick = 0 ∧ State.reset.time.yardClock = 0 ∧ State.reset.time.firstAdoption = true
    ∧ State.reset.time.rate = 16384 ∧ State.reset.time.lullGood = false ∧ State.reset.time.wake = none
    ∧ State.reset.trace = ⟨[], false, none, ⟨.off, 0, 0, 0, 0⟩⟩ ∧ State.reset.counters = Counters.zero
    ∧ State.reset.pending = [])

/-- During an attempt CSEL is low, and the read request 03h 0000h goes out on CDO, most significant bit first. An
attempt that ends with an image that passes every test puts the configuration in force under the strap number it read,
reports the attempts made and the last reason (none when the first attempt passed), and enters LISTENING: receiver in
its quiet wait, listen timer 2 x QUIET gap in ticks, first sample period begun, trace settings from the image, one
zone record for each zone of the station's mask, CLEAR and DEGRADED, its lamp handed FAULT; the detector CALM with an
empty window, the fusion, exception record and Outbound Queue empty, N roster entries UNKNOWN, the agreement JOINING
without history, group or staging. The clocks, counters, ring, events and queue are kept. An attempt that fails
records its reason and waits for the retry delay while fewer than three have been made; the third enters CONFIG FAULT
with CONFIG_FAULT pending and no configuration in force. At the end of the delay the next attempt begins: the count
rises and the strap pins are read again. Nothing else changes but the levels of the strap pins, which these two
commands carry (log 48). That a load which passes later keeps the last reason is log 5, the order of CDO's bits log
47; the values the book does not give are log 29. -/
def Obligations.LoadAttemptsAreJudgedAndRetried : Prop :=
  (∀ s : State, s.resetHeld = false → s.mode = .loading → s.loader.phase = .attempt →
    s.cselLine = .low ∧ ∀ i : Nat, i < 24 → s.cdo i = some (if i = 6 ∨ i = 7 then .high else .low))
  ∧ (∀ (s : State) (n pins : Station) (k : Nat) (image : List Byte) (vane : BitVec 4) (ready : Bool),
    s.resetHeld = false → s.mode = .loading → s.loader.phase = .attempt → s.loader.strap = some n →
    k = s.loader.attempts →
    (judgeImage n image = .none →
      ∃ t, exec (.loadAttemptEnd pins image vane ready) s = .next t
        ∧ t.mode = .listening
        ∧ t.loader = ⟨.settled, k, if k = 1 then .none else s.loader.reason, some n, some (configOf n image)⟩
        ∧ t.line = {
            muteReason := none, cycle := 0, cadence := .quiet, opp := .none, used := false, oppFrames := false
            wakePending := false, silence := false, openTimer := .stopped, openFresh := false
            listenLeft := some (2 * (imgProfile image).quietGapMs / 10), zeroCadence := none, collisions := 0
            rx := .quietWait false, tx := none, plan := none }
        ∧ t.sensor = {
            edges := 0, chatter := 0, firstEdge := none, lastEdge := none, lastAccepted := none, lastPeriod := none
            vane := vane, faulted := false, dustCount := 0, notReady := !ready, dustReady := ready
            periodLeft := some (imgProfile image).samplePeriodT, speed := none, sector := none }
        ∧ t.detector = {
            window := List.replicate 16 (⟨0, none, none, none, none⟩ : Sample), priming := 0, state := .calm, run := none
            gust := none, baselineAtOnset := none, firstEasing := none, refractoryLeft := none, nextSid := 0
            sensorFault := false, condBlind := false, condDust := false, condVane := false, dustRun := 0, vaneRun := 0
            localOverride := false }
        ∧ t.fusion = ⟨none, none, none, false⟩ ∧ t.exc = ⟨false, none, none, none, none, none, 0, 0⟩ ∧ t.outbound = []
        ∧ t.trace = { s.trace with settings := imgTrace image }
        ∧ t.warn = {
            zones := ((List.finRange 8).filter (fun z => (configOf n image).entry.zoneMask.getLsbD z.val)).map
              (fun z => ⟨z, .clear, .none, none, false, true⟩)
            gens := t.warn.gens, lineLost := false, runCount := 0, agree := .joining, pendingAgreed := false
            secondDue := false }
        ∧ t.warn.gens.length = 4
        ∧ (∀ j, j < 4 → t.warn.gens[j]? = some
            (if j < t.warn.zones.length then ⟨true, 0, .fault, .fault, .fault⟩ else ⟨false, 0, .off, .off, .off⟩))
        ∧ t.table = FrontTable.empty (imgProfile image).zones.length
        ∧ t.agree = ⟨.joining, [], [], 0, false, ⟨false, 0, 0, 0, 0, 0, [], false, 0, [], false, false⟩⟩
        ∧ t.roster = {
            entries := List.replicate (imgProfile image).stations
              (⟨.unknown, 0, false, none, none, .unknown⟩ : RosterEntry)
            cycleOpen := false, quietRun := 0, lineLost := false }
        ∧ t = { s with
            mode := t.mode, straps := pins, loader := t.loader, table := t.table, fusion := t.fusion, exc := t.exc
            sensor := t.sensor, detector := t.detector, outbound := t.outbound, line := t.line
            roster := t.roster, agree := t.agree, warn := t.warn, trace := t.trace })
    ∧ (judgeImage n image ≠ .none → k < 3 → exec (.loadAttemptEnd pins image vane ready) s
      = .next { s with straps := pins, loader := ⟨.retryDelay, k, judgeImage n image, some n, none⟩ })
    ∧ (judgeImage n image ≠ .none → 3 ≤ k → exec (.loadAttemptEnd pins image vane ready) s
      = .next { s with
          mode := .configFault
          straps := pins
          loader := ⟨.settled, k, judgeImage n image, some n, none⟩
          panel := { s.panel with events := s.panel.events ||| 2 } }))
  ∧ ∀ (s : State) (pins : Station), s.resetHeld = false → s.mode = .loading → s.loader.phase = .retryDelay →
    exec (.loadRetryDelayExpiry pins) s
      = .next { s with
          straps := pins
          loader := { s.loader with phase := .attempt, attempts := s.loader.attempts + 1, strap := some pins } }

/-- With a RESTART taken, the release of SEL restarts. The local tick, calibrated rate, lull clock good mark, trace
settings and ring are kept; a ring not frozen yet takes a RESTART entry, with the clock and counters before the
restart, as its newest (of 48 entries the oldest leaves) and is frozen with reason RESTART, and a frozen one stays as
it is. The yard clock is set to the local tick, RESTARTED alone is pending, the counters are 0; the queues, the
exception record, the digest history, the staging, the plan and a transmission are gone, and the detector is CALM with
an empty window. With a configuration in force it is kept and the station enters LISTENING: receiver in its quiet
wait, listen timer 2 x QUIET gap in ticks, first sample period begun with the vane code and ready level read, N roster
entries UNKNOWN, every owned zone CLEAR and DEGRADED, its lamp showing FAULT. With none in force (CONFIG FAULT) a new
load begins, whose first attempt has already started within the command, count 1 and the strap pins read from the
state (the model's reading and choice, logs 4 and 48; R199 lets the count start again at 0), with no roster entry and
no zone record (log 27) and the line, sensor and generators at rest. The captured response stays although its
transaction has ended (the model's reading, logs 24 and 44), and so do the last failed attempt's reason through a new
load (log 5) and the capture clock (log 15). The stamps and dust counts of the empty Samples, the fields of the
cleared staging record, the counters and copies of stopped generators and, with none in force, the vane code and ready
level are the model's own values (log 29). -/
def Obligations.WarmRestartKeepsClockTraceAndConfiguration : Prop :=
  ∀ (s : State) (vane : BitVec 4) (ready : Bool), s.resetHeld = false → s.panel.restartTaken = true →
    ∃ t, exec (.warmRestart vane ready) s = .next t
      ∧ t.panel = { s.panel with events := 1, incoming := none, restartTaken := false } ∧ t.counters = Counters.zero
      ∧ t.time = { s.time with
          yardClock := s.time.localTick, firstAdoption := true, calibLeft := none, wake := none, acc := 0, capAcc := 0 }
      ∧ (s.trace.frozen = true → t.trace = s.trace)
      ∧ (s.trace.frozen = false → t.trace = {
          ring := (s.trace.ring
            ++ [(⟨s.time.localTick, s.line.cycle, s.line.opp, .restart, none, none, .none⟩ : TraceEntry)]).drop
              (s.trace.ring.length + 1 - 48)
          frozen := true, reason := some .restart, settings := s.trace.settings })
      ∧ t.fusion = ⟨none, none, none, false⟩ ∧ t.exc = ⟨false, none, none, none, none, none, 0, 0⟩ ∧ t.outbound = []
      ∧ t.detector = {
          window := List.replicate 16 (⟨0, none, none, none, none⟩ : Sample), priming := 0, state := .calm, run := none
          gust := none, baselineAtOnset := none, firstEasing := none, refractoryLeft := none, nextSid := 0
          sensorFault := false, condBlind := false, condDust := false, condVane := false, dustRun := 0, vaneRun := 0
          localOverride := false }
      ∧ t.agree = ⟨.joining, [], [], 0, false, ⟨false, 0, 0, 0, 0, 0, [], false, 0, [], false, false⟩⟩
      ∧ t.table = {
          slots := List.replicate 8 (⟨.free, 0, false, false, 0, 0, [], none, none,
            List.replicate ((s.loader.loaded.map (·.profile.zones.length)).getD 0) .none⟩ : Front)
          nextId := 1, fusedThrough := none }
      ∧ t.roster = {
          entries := List.replicate ((s.loader.loaded.map (·.profile.stations)).getD 0)
            (⟨.unknown, 0, false, none, none, .unknown⟩ : RosterEntry)
          cycleOpen := false, quietRun := 0, lineLost := false }
      ∧ t.warn = { t.warn with
          lineLost := false, runCount := 0, agree := .joining, pendingAgreed := false, secondDue := false }
      ∧ t.warn.gens.length = 4
      ∧ t.line = {
          muteReason := none, cycle := 0, cadence := .quiet, opp := .none, used := false, oppFrames := false
          wakePending := false, silence := false, openTimer := .stopped, openFresh := false
          listenLeft := t.line.listenLeft, zeroCadence := none, collisions := 0, rx := t.line.rx, tx := none
          plan := none }
      ∧ (∀ c, s.loader.loaded = some c → t.mode = .listening ∧ t.loader = s.loader
        ∧ t.line.rx = .quietWait false ∧ t.line.listenLeft = some (2 * c.profile.quietGapMs / 10)
        ∧ t.sensor = {
            edges := 0, chatter := 0, firstEdge := none, lastEdge := none, lastAccepted := none, lastPeriod := none
            vane := vane, faulted := false, dustCount := 0, notReady := !ready, dustReady := ready
            periodLeft := some c.profile.samplePeriodT, speed := none, sector := none }
        ∧ t.warn.zones = ((List.finRange 8).filter (fun z => c.entry.zoneMask.getLsbD z.val)).map
            (fun z => ⟨z, .clear, .none, none, false, true⟩)
        ∧ ∀ k, k < 4 → t.warn.gens[k]? = some
            (if k < t.warn.zones.length then ⟨true, 0, .fault, .fault, .fault⟩ else ⟨false, 0, .off, .off, .off⟩))
      ∧ (s.loader.loaded = none → t.mode = .loading
        ∧ t.loader = ⟨.attempt, 1, s.loader.reason, some s.straps, none⟩
        ∧ t.line.rx = .off ∧ t.line.listenLeft = none
        ∧ t.sensor = ⟨0, 0, none, none, none, none, 0, false, 0, false, true, none, none, none⟩
        ∧ t.warn.zones = [] ∧ ∀ g ∈ t.warn.gens, g = ⟨false, 0, .off, .off, .off⟩)
      ∧ t.resetHeld = s.resetHeld ∧ t.straps = s.straps ∧ t.freeCount = s.freeCount ∧ t.pending = s.pending

/-- The bytes of a transaction spell the command of their code with its arguments, an unknown command for any other
code, and a cut transaction when fewer arguments come than the count byte gives. SDO is not driven while SEL is high;
it sends 00h until the command is taken and in the bytes up to its last argument, then the captured response, then
00h. In every state that serves them, with their argument count and an argument in range, the eight reading commands
answer OK with their data and change nothing but the captured response and the number of incoming bytes: READ STATUS
and READ ZONE field by field, READ FRONT the FUSING flag and the slot's 97 bytes, READ ROSTER an entry's 24, READ
EXCEPTION the record's 15, READ TRACE the ring's 16 at the index, READ COUNTERS the group's counters in their order,
READ CONFIG the configuration's 9. The bytes are those of the model's own coding functions. Fields whose valid byte is
0 answer 0 (log 42); the image's mask bits outside 2..8 are answered as 0 (log 25); what a transaction leaves in the
state is log 44. -/
def Obligations.TransactionsAndReadingCommands : Prop :=
  (∀ (code : Byte) (args : List Byte),
    (panelCommand 0x10 args, panelCommand 0x11 args, panelCommand 0x20 args, panelCommand 0x21 args)
        = (.readStatus args, .clearStatus args, .readFront args, .readRoster args)
    ∧ (panelCommand 0x22 args, panelCommand 0x23 args, panelCommand 0x30 args, panelCommand 0x31 args)
        = (.readZone args, .acknowledgeZone args, .readException args, .clearException args)
    ∧ (panelCommand 0x40 args, panelCommand 0x41 args, panelCommand 0x50 args, panelCommand 0x51 args)
        = (.readTrace args, .armTrace args, .readCounters args, .clearCounters args)
    ∧ (panelCommand 0x60 args, panelCommand 0x7E args) = (.readConfig args, .restart args)
    ∧ (code ∉ ([0x10, 0x11, 0x20, 0x21, 0x22, 0x23, 0x30, 0x31, 0x40, 0x41, 0x50, 0x51, 0x60, 0x7E] : List Byte) →
        panelCommand code args = .panelUnknownCommand code args)
    ∧ (args.length ≤ 255 → panelTransaction (code :: byteOf args.length :: args) = panelCommand code args)
    ∧ (∀ count : Byte, args.length < count.toNat → panelTransaction (code :: count :: args) = .panelTransactionCut)
    ∧ panelTransaction [code] = .panelTransactionCut)
  ∧ ∀ s : State, s.resetHeld = false →
    ((∀ taken pos, s.sdo false taken pos = none) ∧ (∀ pos, s.sdo true false pos = some 0)
      ∧ ∀ n, s.panel.incoming = some n → (∀ pos, pos < n → s.sdo true true pos = some 0)
        ∧ ∀ i, s.sdo true true (n + i) = some (s.panel.response.getD i 0))
    ∧ exec (.readStatus []) s
      = .next { s with panel := { s.panel with incoming := some 2, response := 1 ::
          (be16 s.panel.events
            ++ [s.mode.code, muteCode s.line.muteReason, (s.loader.strap.map (fun i => byteOf i.val)).getD 0xFF,
                s.agree.state.code, flagByte s.agree.installed, s.agree.runCount, s.line.cadence.code,
                flagByte s.roster.lineLost]
            ++ be16 s.line.cycle ++ [s.line.opp.code, flagByte s.table.fusedThrough.isSome]
            ++ be16 (s.table.fusedThrough.getD 0) ++ be32 s.time.yardClock ++ be32 s.time.localTick
            ++ [byteOf s.loader.attempts, s.loader.reason.code]) } }
    ∧ (s.serves = true →
      (∀ (i : Byte) (f : Front), s.table.slots[i.toNat]? = some f →
        (frontData s.profile.zones.length f).length = 97
        ∧ exec (.readFront [i]) s = .next { s with panel := { s.panel with
            incoming := some 3
            response := 1 :: flagByte s.fusion.fusing.isSome :: frontData s.profile.zones.length f } })
      ∧ (∀ (i : Byte) (e : RosterEntry), s.roster.entries[i.toNat]? = some e → e.bytes.length = 24
        ∧ exec (.readRoster [i]) s
          = .next { s with panel := { s.panel with incoming := some 3, response := 1 :: e.bytes } })
      ∧ (∀ (k : Byte) (z : Zone), s.warn.zones[k.toNat]? = some z →
        exec (.readZone [k]) s = .next { s with panel := { s.panel with incoming := some 3, response := 1 ::
          ([byteOf z.zone.val, z.level.code]
            ++ (match z.source with
                | .none => [0, 0xFF, 0]
                | .front slot id => [1, byteOf slot, id]
                | .ownGust => [2, 0xFF, 0])
            ++ [flagByte z.hold.isSome] ++ be16 (BitVec.ofNat 16 (z.hold.getD 0))
            ++ [flagByte z.ack, flagByte z.degraded]) } })
      ∧ (s.exc.bytes.length = 15 ∧ exec (.readException []) s
          = .next { s with panel := { s.panel with incoming := some 2, response := 1 :: s.exc.bytes } })
      ∧ (∀ i : Byte, i.toNat < 48 → (s.trace.bytes i.toNat).length = 16
        ∧ exec (.readTrace [i]) s
          = .next { s with panel := { s.panel with incoming := some 3, response := 1 :: s.trace.bytes i.toNat } })
      ∧ (∀ g : Fin 4, ∃ cs, s.counters.group g.val = some cs ∧ cs.length = [12, 8, 7, 5].getD g.val 0
        ∧ exec (.readCounters [byteOf g.val]) s
          = .next { s with panel := { s.panel with incoming := some 3, response := 1 :: cs.flatMap be16 } })
      ∧ (∀ c, s.loader.loaded = some c → c.bytes.length = 9
        ∧ exec (.readConfig []) s
          = .next { s with panel := { s.panel with incoming := some 2, response := 1 :: c.bytes } }))

/-- In LOADING and CONFIG FAULT every command but READ STATUS (and RESTART in CONFIG FAULT) is answered NOT_READY;
elsewhere, LULL included, a wrong argument count or an argument out of range is answered REJECTED. Nothing but the
captured response and its number of incoming bytes changes, except that in LULL an ACKNOWLEDGE ZONE or a RESTART that
is refused also wakes the station: ACTIVE, wake pending, receiver in its quiet wait. A transaction cut before its
command is taken is discarded without effect, counted, and has ended (log 44). A taken command whose code is not one
of the fourteen is answered REJECTED, in every station state, and changes nothing else. -/
def Obligations.PanelRefusesWithoutEffect : Prop :=
  (∀ (s : State) (args : List Byte), s.resetHeld = false →
    ((s.mode = .loading ∨ s.mode = .configFault) →
      ∀ c ∈ [Instr.clearStatus, .readFront, .readRoster, .readZone, .acknowledgeZone, .readException, .clearException,
          .readTrace, .armTrace, .readCounters, .clearCounters, .readConfig],
        exec (c args) s
          = .next { s with panel := { s.panel with incoming := some (args.length + 2), response := [3] } })
    ∧ (s.mode = .loading → exec (.restart args) s
        = .next { s with panel := { s.panel with incoming := some (args.length + 2), response := [3] } })
    ∧ (s.serves = true →
      (∀ p ∈ [(Instr.readStatus, 0), (.clearStatus, 2), (.readFront, 1), (.readRoster, 1), (.readZone, 1),
          (.readException, 0), (.clearException, 0), (.readTrace, 1), (.armTrace, 8), (.readCounters, 1),
          (.clearCounters, 0), (.readConfig, 0)],
        args.length ≠ p.2 → exec (p.1 args) s
          = .next { s with panel := { s.panel with incoming := some (args.length + 2), response := [2] } })
      ∧ (∀ p ∈ [(Instr.acknowledgeZone, 1), (.restart, 0)], args.length ≠ p.2 →
        (s.mode ≠ .lull → exec (p.1 args) s
          = .next { s with panel := { s.panel with incoming := some (args.length + 2), response := [2] } })
        ∧ (s.mode = .lull → ∃ t, exec (p.1 args) s = .next t
          ∧ t.panel = { s.panel with incoming := some (args.length + 2), response := [2] }
          ∧ t.mode = .active ∧ t.line.wakePending = true ∧ t.line.rx = .quietWait false
          ∧ t.warn.zones = s.warn.zones
          ∧ t = { s with
              mode := t.mode, time := t.time, line := t.line, warn := t.warn, panel := t.panel
              freeCount := t.freeCount }))
      ∧ ∀ i : Byte,
        (s.table.slots.length ≤ i.toNat → exec (.readFront [i]) s
          = .next { s with panel := { s.panel with incoming := some 3, response := [2] } })
        ∧ (s.roster.entries.length ≤ i.toNat → exec (.readRoster [i]) s
          = .next { s with panel := { s.panel with incoming := some 3, response := [2] } })
        ∧ (s.warn.zones.length ≤ i.toNat →
          exec (.readZone [i]) s = .next { s with panel := { s.panel with incoming := some 3, response := [2] } }
          ∧ (s.mode ≠ .lull → exec (.acknowledgeZone [i]) s
            = .next { s with panel := { s.panel with incoming := some 3, response := [2] } })
          ∧ (s.mode = .lull → ∃ t, exec (.acknowledgeZone [i]) s = .next t
            ∧ t.panel = { s.panel with incoming := some 3, response := [2] }
            ∧ t.mode = .active ∧ t.line.wakePending = true ∧ t.line.rx = .quietWait false
            ∧ t.warn.zones = s.warn.zones
            ∧ t = { s with
                mode := t.mode, time := t.time, line := t.line, warn := t.warn, panel := t.panel
                freeCount := t.freeCount }))
        ∧ (48 ≤ i.toNat → exec (.readTrace [i]) s
          = .next { s with panel := { s.panel with incoming := some 3, response := [2] } })
        ∧ (4 ≤ i.toNat → exec (.readCounters [i]) s
          = .next { s with panel := { s.panel with incoming := some 3, response := [2] } })))
  ∧ (∀ s : State, s.resetHeld = false →
    exec .panelTransactionCut s
      = .next { s with
          counters := { s.counters with panelCut := satInc s.counters.panelCut }
          panel := { s.panel with incoming := none } }
    ∧ ∀ (code : Byte) (args : List Byte),
      code ∉ ([0x10, 0x11, 0x20, 0x21, 0x22, 0x23, 0x30, 0x31, 0x40, 0x41, 0x50, 0x51, 0x60, 0x7E] : List Byte) →
      exec (.panelUnknownCommand code args) s
        = .next { s with panel := { s.panel with incoming := some (args.length + 2), response := [2] } })

/-- Served with its argument count, CLEAR STATUS makes exactly the named pending events not pending, CLEAR EXCEPTION
clears pending and sets the count to 0 keeping every other field of the record, and CLEAR COUNTERS sets every counter
to 0. Each answers OK and changes no other state but the number of incoming bytes (log 44). In every state in which
RESET is not held, ATTN is driven low exactly while RESTARTED or CONFIG_FAULT is pending, or one of the maskable
events 2..8 with its mask bit set in the configuration in force, and is driven high otherwise. -/
def Obligations.ClearCommandsClearOnlyTheirOwn : Prop :=
  (∀ s : State, s.resetHeld = false → s.serves = true →
    (∀ a b : Byte, exec (.clearStatus [a, b]) s
      = .next { s with panel := { s.panel with
          events := s.panel.events &&& ~~~(a ++ b), incoming := some 4, response := [1] } })
    ∧ exec (.clearException []) s
      = .next { s with
          exc := { s.exc with pending := false, count := 0 }
          panel := { s.panel with incoming := some 2, response := [1] } }
    ∧ exec (.clearCounters []) s
      = .next { s with
          counters := Counters.zero, panel := { s.panel with incoming := some 2, response := [1] } })
  ∧ ∀ s : State, s.resetHeld = false →
    (s.attnLine = .low ↔ s.panel.events.getLsbD 0 = true ∨ s.panel.events.getLsbD 1 = true
      ∨ ∃ (c : Loaded) (k : Nat), s.loader.loaded = some c ∧ 2 ≤ k ∧ k ≤ 8 ∧ c.masks.getLsbD k = true
          ∧ s.panel.events.getLsbD k = true)
    ∧ (s.attnLine ≠ .low → s.attnLine = .high)

/-- Served outside LULL for an assigned channel: at ALARM the acknowledged flag is set, the siren is off, the answer
is OK, and nothing else changes but the number of incoming bytes (log 44, as in each case below); at any other level
the answer is REJECTED and nothing else changes. In LULL, with the zone not at ALARM (at ALARM: log 45), the station
wakes to ACTIVE with wake pending and the command is refused. Outside LOADING a RESTART without arguments is answered
OK and marked as taken; outside LULL nothing else changes. Taken in LULL it also wakes the station: ACTIVE, wake
pending, receiver in its quiet wait. -/
def Obligations.AcknowledgeAndRestartAreTaken : Prop :=
  (∀ (s : State) (k : Byte) (z : Zone), s.resetHeld = false → s.serves = true → s.warn.zones[k.toNat]? = some z →
    (s.mode ≠ .lull → z.level = .alarm →
      ∃ t, exec (.acknowledgeZone [k]) s = .next t
        ∧ t = { s with
            warn := { s.warn with zones := s.warn.zones.set k.toNat { z with ack := true } }
            panel := { s.panel with incoming := some 3, response := [1] } }
        ∧ ∀ c : Fin 4, c.val = k.toNat → t.sirenOn c = false)
    ∧ (s.mode ≠ .lull → z.level ≠ .alarm →
      exec (.acknowledgeZone [k]) s
        = .next { s with panel := { s.panel with incoming := some 3, response := [2] } })
    ∧ (s.mode = .lull → z.level ≠ .alarm →
      ∃ t, exec (.acknowledgeZone [k]) s = .next t
        ∧ t.panel = { s.panel with incoming := some 3, response := [2] } ∧ t.mode = .active
        ∧ t.line.wakePending = true ∧ t.line.rx = .quietWait false ∧ t.warn.zones = s.warn.zones
        ∧ t = { s with
            mode := t.mode, time := t.time, line := t.line, warn := t.warn, panel := t.panel
            freeCount := t.freeCount }))
  ∧ (∀ s : State, s.resetHeld = false →
    (s.mode ≠ .loading → s.mode ≠ .lull →
      exec (.restart []) s
        = .next { s with panel := { s.panel with incoming := some 2, response := [1], restartTaken := true } })
    ∧ (s.mode = .lull →
      ∃ t, exec (.restart []) s = .next t
        ∧ t.panel = { s.panel with incoming := some 2, response := [1], restartTaken := true }
        ∧ t.mode = .active ∧ t.line.wakePending = true ∧ t.line.rx = .quietWait false
        ∧ t = { s with
            mode := t.mode, time := t.time, line := t.line, warn := t.warn, panel := t.panel
            freeCount := t.freeCount }))

/-- In every state from LISTENING onward: an edge less than 20 units after the last accepted one is chatter, counted
in the period and in the counter; any other is accepted and updates the edge count, the first, last and last accepted
edge and the last period (NONE with no edge before it or after more than 20,000 units). A new vane code becomes the
current code, and a change of two or more lines is a vane fault. A dust pulse is counted up to 65535. A low ready line
marks the period not-ready. Nothing else changes. The capture clock's reset value and unsigned differences are the
model's choice (log 15). -/
def Obligations.SensorInputsAreRecorded : Prop :=
  ∀ s : State, s.resetHeld = false → s.mode.runs = true →
    (∀ (offset : Nat) (now : Tick), now = s.time.capture + BitVec.ofNat 32 offset →
      (∀ a, s.sensor.lastAccepted = some a → (now - a).toNat < 20 →
        exec (.anemometerEdge offset) s = .next { s with
          sensor := { s.sensor with chatter := s.sensor.chatter + 1 }
          counters := { s.counters with anemometerChatter := satInc s.counters.anemometerChatter } })
      ∧ (∀ a, s.sensor.lastAccepted = some a → 20 ≤ (now - a).toNat →
        exec (.anemometerEdge offset) s = .next { s with
          sensor := { s.sensor with
            edges := s.sensor.edges + 1
            firstEdge := some (s.sensor.firstEdge.getD now)
            lastEdge := some now
            lastPeriod := if 20000 < (now - a).toNat then none else some (now - a).toNat
            lastAccepted := some now } })
      ∧ (s.sensor.lastAccepted = none →
        exec (.anemometerEdge offset) s = .next { s with
          sensor := { s.sensor with
            edges := s.sensor.edges + 1
            firstEdge := some (s.sensor.firstEdge.getD now)
            lastEdge := some now
            lastPeriod := none
            lastAccepted := some now } }))
    ∧ (∀ (code : BitVec 4) (changed : Nat),
      changed = ((List.range 4).filter (fun i => code.getLsbD i != s.sensor.vane.getLsbD i)).length →
      (changed < 2 → exec (.vaneCodeChange code) s = .next { s with sensor := { s.sensor with vane := code } })
      ∧ (2 ≤ changed → exec (.vaneCodeChange code) s = .next { s with
          sensor := { s.sensor with vane := code, faulted := true }
          counters := { s.counters with vaneFaults := satInc s.counters.vaneFaults } }))
    ∧ exec .dustPulse s = .next { s with sensor := { s.sensor with
        dustCount := if s.sensor.dustCount = 65535 then 65535 else s.sensor.dustCount + 1 } }
    ∧ exec .dustReadyLow s = .next { s with sensor := { s.sensor with dustReady := false, notReady := true } }

/-- When the period ends, the Sample is stamped with the yard clock; its speed follows the four cases (chatter storm
UNSET; from the span of two or more edges; from the last period after a recent single edge; otherwise 0; at most
1022), its sector is the Gray decode of the current code or UNSET after a fault, and its dust count and class are
UNSET in a not-ready period and judged against the three thresholds otherwise. The Onset Detector takes it, and the
next period starts with its counts reset. Where the Sample brings a report (an ONSET made, a change of the detector's
state by name, a change of the local override) one evaluation is made with the detector as it leaves it: the zone
records, the ZONE_RAISED event and, with the mode unchanged, the generators are those of that evaluation; without a
report they stay. Table, fusion, roster, agreement and trace are unchanged. That the sector of a period after a fault
period decodes the current code is the model's reading (log 14); so are the unsigned differences of capture times (log
15) and the ready level that the command carries (log 16). -/
def Obligations.SamplePeriodEndBuildsTheSample : Prop :=
  ∀ (s : State) (ready : Bool), s.resetHeld = false → s.mode.runs = true → s.sensor.periodLeft = some 0 →
    ∃ (t : State) (x : Sample), exec (.samplePeriodEnd ready) s = .next t
      ∧ x.stamp = s.time.yardClock
      ∧ (4 ≤ s.sensor.chatter → s.sensor.edges < s.sensor.chatter → x.speed = none)
      ∧ (¬(4 ≤ s.sensor.chatter ∧ s.sensor.edges < s.sensor.chatter) → 2 ≤ s.sensor.edges →
          ∀ a b, s.sensor.firstEdge = some a → s.sensor.lastEdge = some b →
            x.speed = some (min 1022 ((s.sensor.edges - 1) * s.profile.airPerPulse * 100 / (b - a).toNat)))
      ∧ (¬(4 ≤ s.sensor.chatter ∧ s.sensor.edges < s.sensor.chatter) → s.sensor.edges < 2 →
          (∀ a q, s.sensor.lastAccepted = some a → s.sensor.lastPeriod = some q →
              (s.time.capture - a).toNat ≤ 20000 → x.speed = some (min 1022 (s.profile.airPerPulse * 100 / q)))
          ∧ (s.sensor.lastAccepted = none ∨ s.sensor.lastPeriod = none
              ∨ (∃ a, s.sensor.lastAccepted = some a ∧ 20000 < (s.time.capture - a).toNat) → x.speed = some 0))
      ∧ (s.sensor.faulted = true → x.sector = none)
      ∧ (s.sensor.faulted = false → ∀ n : Fin 16,
          s.sensor.vane = BitVec.ofNat 4 (n.val ^^^ (n.val / 2)) → x.sector = some n)
      ∧ (s.sensor.notReady = true → x.dustCount = none ∧ x.dust = none)
      ∧ (s.sensor.notReady = false → x.dustCount = some s.sensor.dustCount.toNat
          ∧ x.dust = some (if s.sensor.dustCount.toNat < s.profile.dust1 then 0
              else if s.sensor.dustCount.toNat < s.profile.dust2 then 1
              else if s.sensor.dustCount.toNat < s.profile.dust3 then 2 else 3))
      ∧ t.sensor = { s.sensor with
          edges := 0, chatter := 0, firstEdge := none, lastEdge := none, faulted := false, dustCount := 0
          dustReady := ready, notReady := !ready, periodLeft := some s.profile.samplePeriodT
          speed := x.speed, sector := x.sector }
      ∧ t.detector = (s.detector.take s.profile s.own x s.sensor.faulted).1
      ∧ t.detector.window = s.detector.window.drop 1 ++ [x]
      ∧ t.detector.priming = min 16 (s.detector.priming + 1)
      ∧ (∀ quiet : Prop,
          (quiet ↔ (t.detector.state = s.detector.state
              ∨ (∃ j k, s.detector.state = .rising j ∧ t.detector.state = .rising k)
              ∨ ∃ j k, s.detector.state = .easing j ∧ t.detector.state = .easing k)
            ∧ t.detector.localOverride = s.detector.localOverride
            ∧ ∀ g, (s.detector.take s.profile s.own x s.sensor.faulted).2 = some g → g.kind ≠ .onset) →
          (quiet → t.warn.zones = s.warn.zones ∧ t.panel.events.getLsbD 5 = s.panel.events.getLsbD 5
            ∧ (t.mode = s.mode → t.warn = s.warn))
          ∧ (¬quiet → t.warn.zones = (evaluate { s with detector := t.detector }).warn.zones
            ∧ t.panel.events.getLsbD 5 = (evaluate { s with detector := t.detector }).panel.events.getLsbD 5
            ∧ (t.mode = s.mode → t.warn = (evaluate { s with detector := t.detector }).warn)))
      ∧ t.counters = { s.counters with outboundRefused := t.counters.outboundRefused }
      ∧ t = { s with
          mode := t.mode, sensor := t.sensor, detector := t.detector, outbound := t.outbound, line := t.line
          time := t.time, warn := t.warn, counters := t.counters, panel := t.panel, freeCount := t.freeCount }

/-- A satisfying Sample that is the last of the sustain run makes an ONSET with the run's first stamp, greatest speed,
newest set sector and greatest set dust class; the state becomes GUSTING, the gust record opens, the baseline is
frozen and the id counter advances. The Outbound Queue refuses it in LISTENING, when it holds 8, or when it holds the
same id (counted, nothing else), and otherwise adds it at the tail. Class 3 begins the local override. The report
brings one evaluation with the detector as it then stands, which under the override takes every owned zone to ALARM
with source LOCAL. In LULL the ONSET wakes the station (before the offer: log 37). -/
def Obligations.SustainRunMakesAnOnset : Prop :=
  ∀ (s : State) (ready : Bool) (k v : Nat) (r : SustainRun), s.resetHeld = false → s.mode.runs = true →
    s.sensor.periodLeft = some 0 → s.detector.state = .rising k → s.detector.run = some r → s.profile.sustain ≤ k + 1 →
    6 ≤ (s.detector.push s.sampleBuilt).baselineSpeeds.length → s.sampleBuilt.speed = some v →
    (s.detector.push s.sampleBuilt).baseline + s.profile.gustMargin < v →
    (∀ c, s.sampleBuilt.dust = some c → s.profile.onsetClass ≤ c.val) →
    ∃ (t : State) (g : Sighting), exec (.samplePeriodEnd ready) s = .next t
      ∧ g = { kind := .onset, source := s.own, sid := s.detector.nextSid, onsetRef := none, time := r.firstStamp
              peak := some (max r.peak v), sector := s.sampleBuilt.sector.or r.sector
              dust := maxDust r.dust s.sampleBuilt.dust, cut := false }
      ∧ t.detector.state = .gusting ∧ t.detector.run = none
      ∧ t.detector.gust = some ⟨s.detector.nextSid, g.sector, r.firstStamp, max r.peak v, g.dust⟩
      ∧ t.detector.baselineAtOnset = some (s.detector.push s.sampleBuilt).baseline
      ∧ t.detector.nextSid = s.detector.nextSid + 1
      ∧ t.detector.localOverride = (s.sampleBuilt.dust == some 3)
      ∧ ((s.mode = .listening ∨ 8 ≤ s.outbound.length ∨ ∃ q ∈ s.outbound, q.sid = s.detector.nextSid) →
          t.outbound = s.outbound
          ∧ t.counters = { s.counters with outboundRefused := satInc s.counters.outboundRefused })
      ∧ (s.mode ≠ .listening → s.outbound.length < 8 → (∀ q ∈ s.outbound, q.sid ≠ s.detector.nextSid) →
          t.outbound = s.outbound ++ [g] ∧ t.counters = s.counters)
      ∧ (s.mode = .lull → t.mode = .active ∧ t.line.wakePending = true ∧ t.line.rx = .quietWait false
          ∧ t.time.wake = none
          ∧ t.warn = (evaluate { s with
              mode := .active, detector := t.detector
              warn := { s.warn with gens := resumeGens s.warn.zones s.warn.gens } }).warn)
      ∧ (s.mode ≠ .lull → t.mode = s.mode ∧ t.time = s.time ∧ t.line = { s.line with openFresh := false }
          ∧ t.warn = (evaluate { s with detector := t.detector }).warn)
      ∧ t.warn.zones = (evaluate { s with detector := t.detector }).warn.zones
      ∧ t.panel.events.getLsbD 5 = (evaluate { s with detector := t.detector }).panel.events.getLsbD 5
      ∧ (s.sampleBuilt.dust = some 3 → t.warn.zones.length = s.warn.zones.length
          ∧ ∀ z ∈ t.warn.zones, z.level = .alarm ∧ z.source = .ownGust)
      ∧ t = { s with
          mode := t.mode, sensor := t.sensor, detector := t.detector, outbound := t.outbound, line := t.line
          time := t.time, warn := t.warn, counters := t.counters, panel := t.panel }

/-- In EASING, the failing Sample that completes the run makes a SUBSIDE that names the gust's ONSET, with the first
easing stamp, the updated gust peak and class and the ONSET's sector, cut flag clear. The gust closes, the id counter
advances, and the state becomes REFRACTORY with its timer started, or CALM at once with a refractory time of 0. The
sighting is queued where the Outbound Queue has room and no equal id, outside LISTENING. The change is reported, and
one evaluation is made. When the refractory timer has run out in REFRACTORY, the state becomes CALM with the timer
stopped, an evaluation of the owned zones is made, and the conditions of LULL are tested as at a tick (log 8). Nothing
else changes. -/
def Obligations.GustEndsAndRefractoryTimeRunsOut : Prop :=
  (∀ (s : State) (ready : Bool) (k b v : Nat) (g : GustRecord) (e : Tick), s.resetHeld = false → s.mode.runs = true →
    s.sensor.periodLeft = some 0 → s.detector.state = .easing k → s.detector.gust = some g →
    s.detector.firstEasing = some e → s.detector.baselineAtOnset = some b → s.profile.sustain ≤ k + 1 →
    6 ≤ (s.detector.push s.sampleBuilt).baselineSpeeds.length → s.sampleBuilt.speed = some v →
    (v ≤ b + s.profile.gustMargin / 2 ∨ ∃ c, s.sampleBuilt.dust = some c ∧ c.val < s.profile.onsetClass) →
    ∃ t, exec (.samplePeriodEnd ready) s = .next t
      ∧ t.detector.state = (if s.profile.refractoryT = 0 then .calm else .refractory)
      ∧ t.detector.refractoryLeft = (if s.profile.refractoryT = 0 then none else some s.profile.refractoryT)
      ∧ t.detector.gust = none ∧ t.detector.baselineAtOnset = none ∧ t.detector.firstEasing = none
      ∧ t.detector.nextSid = s.detector.nextSid + 1 ∧ t.detector.localOverride = false
      ∧ (s.mode ≠ .listening → s.outbound.length < 8 → (∀ q ∈ s.outbound, q.sid ≠ s.detector.nextSid) →
          t.outbound = s.outbound ++
            [{ kind := .subside, source := s.own, sid := s.detector.nextSid, onsetRef := some g.onsetId, time := e
               peak := some (max g.peak v), sector := g.sector, dust := maxDust g.dust s.sampleBuilt.dust
               cut := false }]
          ∧ t.counters = s.counters)
      ∧ t.mode = s.mode ∧ t.time = s.time
      ∧ t.warn = (evaluate { s with detector := t.detector }).warn
      ∧ t.panel.events.getLsbD 5 = (evaluate { s with detector := t.detector }).panel.events.getLsbD 5
      ∧ t = { s with
          sensor := t.sensor, detector := t.detector, outbound := t.outbound, line := t.line, warn := t.warn
          counters := t.counters, panel := t.panel })
  ∧ (∀ s : State, s.resetHeld = false → s.mode.runs = true → s.detector.state = .refractory →
    s.detector.refractoryLeft = some 0 →
    exec .refractoryExpiry s = .next (finishAtTick (evaluate
      { s with detector := { s.detector with state := .calm, refractoryLeft := none } }))
    ∧ ∃ t, exec .refractoryExpiry s = .next t
      ∧ t.detector = { s.detector with state := .calm, refractoryLeft := none }
      ∧ t = { s with
          mode := t.mode, detector := t.detector, line := t.line, time := t.time, warn := t.warn, panel := t.panel
          freeCount := t.freeCount })

/-- At a blind Sample the state becomes BLIND from every state: a sustain run is discarded, the refractory timer
stops, and a gust is closed with a SUBSIDE that has the cut flag set and, in GUSTING, the stamp of the blind Sample,
in EASING the first easing stamp. No other sighting is made. A change to BLIND, or an override that ends, is reported
and brings one evaluation; a detector BLIND already, with no override, reports nothing. -/
def Obligations.BlindSampleEntersBlind : Prop :=
  ∀ (s : State) (ready : Bool), s.resetHeld = false → s.mode.runs = true → s.sensor.periodLeft = some 0 →
    (s.detector.push s.sampleBuilt).baselineSpeeds.length < 6 →
    ∃ t, exec (.samplePeriodEnd ready) s = .next t
      ∧ t.detector.state = .blind ∧ t.detector.localOverride = false
      ∧ (∀ k, s.detector.state = .rising k → t.detector.run = none)
      ∧ (s.detector.state = .refractory → t.detector.refractoryLeft = none)
      ∧ (s.detector.state ≠ .gusting → (∀ k, s.detector.state ≠ .easing k) →
          t.outbound = s.outbound ∧ t.counters = s.counters ∧ t.detector.nextSid = s.detector.nextSid)
      ∧ (∀ (g : GustRecord) (e : Tick), s.detector.gust = some g →
          (s.detector.state = .gusting ∧ e = s.time.yardClock
            ∨ (∃ k, s.detector.state = .easing k) ∧ s.detector.firstEasing = some e) →
          s.mode ≠ .listening → s.outbound.length < 8 → (∀ q ∈ s.outbound, q.sid ≠ s.detector.nextSid) →
          t.detector.gust = none ∧ t.detector.nextSid = s.detector.nextSid + 1
          ∧ t.outbound = s.outbound ++
            [{ kind := .subside, source := s.own, sid := s.detector.nextSid, onsetRef := some g.onsetId, time := e
               peak := some (max g.peak (s.sampleBuilt.speed.getD 0)), sector := g.sector
               dust := maxDust g.dust s.sampleBuilt.dust, cut := true }])
      ∧ (s.detector.state ≠ .blind ∨ s.detector.localOverride = true →
          t.warn = (evaluate { s with detector := t.detector }).warn
          ∧ t.panel.events.getLsbD 5 = (evaluate { s with detector := t.detector }).panel.events.getLsbD 5)
      ∧ (s.detector.state = .blind → s.detector.localOverride = false →
          t.warn = s.warn ∧ t.panel.events.getLsbD 5 = s.panel.events.getLsbD 5)
      ∧ t.mode = s.mode

/-- A Sample satisfies exactly when its speed is set and exceeds baseline plus gust margin and its dust class is UNSET
or at least the onset class; so not with the speed UNSET or at most that sum, nor with a set class below the onset
class. At a Sample that is not blind: in CALM or BLIND a satisfying Sample opens a sustain run and any other leaves
CALM; in RISING a satisfying one joins the run and any other discards it; in GUSTING and EASING a holding Sample gives
GUSTING, a failing one EASING with the first easing stamp kept, a neutral one keeps the state, and the gust record is
updated; in REFRACTORY the state stays. No sighting is made. -/
def Obligations.DetectorFollowsItsTables : Prop :=
  ∀ (d : Detector) (p : Profile) (own : Station) (x : Sample) (faulted : Bool) (d1 : Detector) (b : Nat),
    6 ≤ (d.push x).baselineSpeeds.length → b = (d.push x).baseline → d1 = (d.take p own x faulted).1 →
    (satisfies p b x = true ↔
      ∃ v, x.speed = some v ∧ b + p.gustMargin < v ∧ ∀ c, x.dust = some c → p.onsetClass ≤ c.val)
    ∧ (satisfies p b x = false ↔
      x.speed = none ∨ (∃ v, x.speed = some v ∧ v ≤ b + p.gustMargin) ∨ ∃ c, x.dust = some c ∧ c.val < p.onsetClass)
    ∧ ((d.state = .calm ∨ d.state = .blind) →
      (d.take p own x faulted).2 = none
      ∧ (satisfies p b x = true →
          d1.state = .rising 1 ∧ d1.run = some ⟨x.stamp, x.speed.getD 0, x.dust, x.sector⟩)
      ∧ (satisfies p b x = false → d1.state = .calm ∧ d1.run = none))
    ∧ (∀ k r, d.state = .rising k → d.run = some r →
      (satisfies p b x = true → k + 1 < p.sustain →
        (d.take p own x faulted).2 = none ∧ d1.state = .rising (k + 1)
          ∧ d1.run = some ⟨r.firstStamp, max r.peak (x.speed.getD 0), maxDust r.dust x.dust, x.sector.or r.sector⟩)
      ∧ (satisfies p b x = false → (d.take p own x faulted).2 = none ∧ d1.state = .calm ∧ d1.run = none))
    ∧ (∀ g a, d.gust = some g → d.baselineAtOnset = some a → (d.state = .gusting ∨ ∃ k, d.state = .easing k) →
      (x.speed = none →
        (d.take p own x faulted).2 = none ∧ d1.state = d.state ∧ d1.firstEasing = d.firstEasing
          ∧ d1.gust = some { g with dust := maxDust g.dust x.dust })
      ∧ (∀ v, x.speed = some v → a + p.gustMargin / 2 < v → (∀ c, x.dust = some c → p.onsetClass ≤ c.val) →
        (d.take p own x faulted).2 = none ∧ d1.state = .gusting ∧ d1.firstEasing = none
          ∧ d1.gust = some { g with peak := max g.peak v, dust := maxDust g.dust x.dust })
      ∧ (∀ v, x.speed = some v →
        (v ≤ a + p.gustMargin / 2 ∨ ∃ c, x.dust = some c ∧ c.val < p.onsetClass) →
        (d.state = .gusting → 1 < p.sustain → d.firstEasing = none →
          (d.take p own x faulted).2 = none ∧ d1.state = .easing 1 ∧ d1.firstEasing = some x.stamp
            ∧ d1.gust = some { g with peak := max g.peak v, dust := maxDust g.dust x.dust })
        ∧ (∀ k e, d.state = .easing k → k + 1 < p.sustain → d.firstEasing = some e →
          (d.take p own x faulted).2 = none ∧ d1.state = .easing (k + 1) ∧ d1.firstEasing = some e
            ∧ d1.gust = some { g with peak := max g.peak v, dust := maxDust g.dust x.dust })))
    ∧ (d.state = .refractory → (d.take p own x faulted).2 = none ∧ d1.state = .refractory)

/-- At the end of a period the dust and vane run counts advance or return to 0, stopping at 8. The blind condition
holds while the detector is BLIND past priming, at a blind Sample too and at the one that ends priming. At a Sample
that is not blind the dust and vane conditions hold exactly at a run count of 8; at a blind one they stay as they
were. SENSOR_FAULT is set exactly while a condition holds, and the event becomes pending when one begins to hold, and
only then. That the run counts advance and the two conditions stay at a blind Sample is the model's reading (log 13).
-/
def Obligations.SensorFaultFollowsItsConditions : Prop :=
  ∀ (s : State) (ready : Bool), s.resetHeld = false → s.mode.runs = true → s.sensor.periodLeft = some 0 →
    ∃ t, exec (.samplePeriodEnd ready) s = .next t
      ∧ t.detector.dustRun = (if s.sampleBuilt.dust = none then min 8 (s.detector.dustRun + 1) else 0)
      ∧ t.detector.vaneRun = (if s.sensor.faulted then min 8 (s.detector.vaneRun + 1) else 0)
      ∧ t.detector.condBlind = (t.detector.state == .blind && t.detector.priming == 16)
      ∧ (6 ≤ (s.detector.push s.sampleBuilt).baselineSpeeds.length →
          t.detector.condDust = (t.detector.dustRun == 8) ∧ t.detector.condVane = (t.detector.vaneRun == 8))
      ∧ ((s.detector.push s.sampleBuilt).baselineSpeeds.length < 6 →
          t.detector.condBlind = decide (15 ≤ s.detector.priming)
          ∧ (t.detector.condDust, t.detector.condVane) = (s.detector.condDust, s.detector.condVane))
      ∧ t.detector.sensorFault = (t.detector.condBlind || t.detector.condDust || t.detector.condVane)
      ∧ t.panel.events.getLsbD 6 = (s.panel.events.getLsbD 6
          || (t.detector.condBlind && !s.detector.condBlind) || (t.detector.condDust && !s.detector.condDust)
          || (t.detector.condVane && !s.detector.condVane))

/-- A TRACKED front passes for a sighting exactly when the sighting is not earlier than the origin's onset and the
distance from the predicted position, each displacement truncated toward zero, is at most the association radius; that
distance is the residual. A stalled front's predicted position is its latest entry's, so it passes when the source
lies within the radius of that station. A difference of exactly 2^31 ticks is read as negative, the model's choice
(log 51). -/
def Obligations.TrackedFrontPassesByItsResidual : Prop :=
  ∀ (p : Profile) (f : Front) (g : Sighting) (a l : Entry), f.track.head? = some a → f.track.getLast? = some l →
    f.state = .tracked → f.hasStation g.source = false →
    (∀ r : Nat, (slotTest p g f).1 = some r ↔
      0 ≤ (g.time - a.onset).toInt ∧ r ≤ p.assocRadius
        ∧ r = isqrt
            (((p.position g.source).1 - ((p.position l.station).1 + (f.vx * (g.time - l.onset).toInt).tdiv 10000)) ^ 2
              + ((p.position g.source).2
                  - ((p.position l.station).2 + (f.vy * (g.time - l.onset).toInt).tdiv 10000)) ^ 2 : Int).toNat)
    ∧ (f.vx = 0 → f.vy = 0 → 0 ≤ (g.time - a.onset).toInt →
        ((slotTest p g f).1.isSome ↔ distance (p.position l.station) (p.position g.source) ≤ p.assocRadius))

/-- A FORMING front passes exactly when the time since its origin lies in the pairing window, the distance is positive
and within the speed limits by exact products, and the source lies at most 2 sectors from downwind of the origin, a
test skipped when the origin's sector is UNSET; the bearing folds the step's magnitudes into 0..4 by the ratios 1989,
6682, 14966 and 50273 over 10000 and places the fold in its quadrant; the residual is |D - N|. An UNSET operand is
reported exactly when a front reaches the bearing test with an UNSET sector. FREE and DECAYING fronts, and fronts that
hold an entry of the source, never pass and report nothing. -/
def Obligations.FormingFrontPassesByWindowSpeedAndBearing : Prop :=
  ∀ (p : Profile) (f : Front) (g : Sighting) (o : Entry) (dt dx dy : Int) (d fold b : Nat), f.track.head? = some o →
    dt = (g.time - o.onset).toInt → d = distance (p.position o.station) (p.position g.source) →
    dx = (p.position g.source).1 - (p.position o.station).1 →
    dy = (p.position g.source).2 - (p.position o.station).2 →
    fold = (if 10000 * dx.natAbs < 1989 * dy.natAbs then 0 else if 10000 * dx.natAbs < 6682 * dy.natAbs then 1
      else if 10000 * dx.natAbs < 14966 * dy.natAbs then 2 else if 10000 * dx.natAbs < 50273 * dy.natAbs then 3
      else 4) →
    (0 ≤ dx → 0 ≤ dy → b = fold) → (0 ≤ dx → dy < 0 → b = 8 - fold) → (dx < 0 → dy < 0 → b = 8 + fold) →
    (dx < 0 → 0 ≤ dy → b = (16 - fold) % 16) →
    (f.state = .forming → f.hasStation g.source = false →
      (∀ r : Nat, (slotTest p g f).1 = some r ↔
        0 < dt ∧ dt ≤ p.pairingT ∧ 0 < d ∧ (p.speedFloor : Int) * dt ≤ d * 10000 ∧ d * 10000 ≤ p.speedCeiling * dt
          ∧ (∀ s0, o.sector = some s0 →
              min ((b + 32 - (s0.val + 8)) % 16) (16 - (b + 32 - (s0.val + 8)) % 16) ≤ 2)
          ∧ r = ((d : Int) - (p.nominalSpeed * dt.toNat / 10000 : Nat)).natAbs)
      ∧ ((slotTest p g f).2 = true ↔
        0 < dt ∧ dt ≤ p.pairingT ∧ 0 < d ∧ (p.speedFloor : Int) * dt ≤ d * 10000 ∧ d * 10000 ≤ p.speedCeiling * dt
          ∧ o.sector = none))
    ∧ ((f.state = .free ∨ f.state = .decaying ∨ f.hasStation g.source = true) → slotTest p g f = (none, false))

/-- The slot chosen for an ONSET is the one whose front passes its test with the smallest residual, and among equal
residuals the lowest-numbered; none is chosen exactly when no slot passes. -/
def Obligations.PlacementTakesTheNearestLowestCandidate : Prop :=
  ∀ (p : Profile) (g : Sighting) (slots : List Front),
    (∀ i : Nat, bestSlot p g slots = some i ↔
      ∃ f r, slots[i]? = some f ∧ (slotTest p g f).1 = some r
        ∧ ∀ j f' r', slots[j]? = some f' → (slotTest p g f').1 = some r' → r < r' ∨ r = r' ∧ i ≤ j)
    ∧ (bestSlot p g slots = none ↔ ∀ f ∈ slots, (slotTest p g f).1 = none)

/-- A sighting step whose head is an ONSET with a best candidate inserts its entry in track-list order (a seventh
entry drops the one at position 1), re-estimates, makes a FORMING front with a valid velocity TRACKED and recomputes
the derived fields, in the chosen slot; the other slots, the next front id and the fused-through label stay, and the
sighting leaves its label. The exception record, the disabled counters and the pending events are those that the
step's reports leave, taken one by one: for each slot in order whose bearing test met an UNSET sector, UNSET OPERAND
with that slot's front; then for the chosen front the reports of the re-estimate, of an UNSET intensity and of the
arrival list. Nothing else changes. Stated for a fusion that no overrun has stopped; the step of a stopped one is in
ClosingStepAgesTheTableAndStoresItsDigest. The place of the entry in a list over 2^31 ticks or more is the model's
choice (logs 43, 51). -/
def Obligations.OnsetJoinsItsFront : Prop :=
  ∀ (s : State) (l : Label) (g : Sighting) (rest : List Sighting) (i : Nat) (f : Front),
    s.resetHeld = false → s.mode.runs = true → s.fusion.fusing = some l → l.sightings = g :: rest →
    s.fusion.stopping = false → g.kind = .onset →
    bestSlot s.profile g s.table.slots = some i → s.table.slots[i]? = some f →
    ∃ (t u : State) (f' : Front), exec .sightingStepEnd s = .next t
      ∧ t.table = { s.table with slots := s.table.slots.set i f' }
      ∧ f' = (placeInFront s.profile f g).1
      ∧ f'.id = f.id
      ∧ f'.track = trimTrack (insertEntry ⟨g.source, g.sid, g.time, g.peak, g.sector, g.dust, false⟩ f.track)
      ∧ (f'.vx, f'.vy, f'.valid, f'.stalled)
          = (let v := (reestimate s.profile { f with track := f'.track }).1; (v.vx, v.vy, v.valid, v.stalled))
      ∧ f'.state = (if f.state = .forming ∧ f'.valid = true then .tracked else f.state)
      ∧ (f'.dustI, f'.peakI, f'.arrivals)
          = (dustIntensity f'.track, peakIntensity f'.track, (arrivalList s.profile f').1)
      ∧ t.fusion = { s.fusion with fusing := some { l with sightings := rest } }
      ∧ u = ((reestimate s.profile { f with track := f'.track }).2
              ++ (if f'.dustI = none then [(⟨.unsetOperand, 2⟩ : ExcReport)] else [])
              ++ (if f'.peakI = none then [(⟨.unsetOperand, 3⟩ : ExcReport)] else [])
              ++ (arrivalList s.profile f').2).foldl
            (report ⟨f.id, i, some (g.source, g.sid), l.number⟩)
          ((s.table.slots.zipIdx.filter (fun x => (slotTest s.profile g x.1).2)).foldl
            (fun (v : State) (x : Front × Nat) =>
              report ⟨x.1.id, x.2, some (g.source, g.sid), l.number⟩ v ⟨.unsetOperand, 1⟩) s)
      ∧ (t.exc, t.counters, t.panel) = (u.exc, u.counters, u.panel)
      ∧ t.counters = { s.counters with
          disabledUnset := t.counters.disabledUnset, disabledZero := t.counters.disabledZero
          disabledCeiling := t.counters.disabledCeiling, disabledFloor := t.counters.disabledFloor
          disabledHorizon := t.counters.disabledHorizon }
      ∧ (t.panel.events = s.panel.events ∨ t.panel.events = s.panel.events ||| 4)
      ∧ t = { s with
          table := t.table, fusion := t.fusion, exc := t.exc, counters := t.counters
          panel := { s.panel with events := t.panel.events }, line := { s.line with openFresh := false } }

/-- A front is created in the lowest FREE slot; with no FREE slot, in the DECAYING slot whose newest entry is oldest
by the fusion's now, the lowest-numbered of equals; with neither, in none. With at most eight occupied slots and a
next front id of 1..255, the id assigned is 1..255, is carried by no occupied slot, and is the first such id counting
upward from the next front id with 255 followed by 1. A difference of exactly 2^31 ticks is read as negative, the
model's choice (log 51). -/
def Obligations.NewFrontTakesTheRightSlotAndAFreeId : Prop :=
  (∀ (now : Tick) (slots : List Front),
    (∀ i : Nat, (∃ f, slots[i]? = some f ∧ f.state = .free) →
      (∀ j f', slots[j]? = some f' → f'.state = .free → i ≤ j) → slotForNew now slots = some i)
    ∧ ((∀ f ∈ slots, f.state ≠ .free) →
      (∀ i : Nat, slotForNew now slots = some i ↔
        ∃ f, slots[i]? = some f ∧ f.state = .decaying
          ∧ ∀ j f', slots[j]? = some f' → f'.state = .decaying →
            (now - f'.newest).toInt < (now - f.newest).toInt
              ∨ (now - f'.newest).toInt = (now - f.newest).toInt ∧ i ≤ j)
      ∧ ((∀ f ∈ slots, f.state ≠ .decaying) → slotForNew now slots = none)))
  ∧ (∀ (next : Byte) (slots : List Front), next ≠ 0 → (slots.filter Front.occupied).length ≤ 8 →
    assignId next slots ≠ 0
    ∧ (∀ f ∈ slots, f.state ≠ .free → f.id ≠ assignId next slots)
    ∧ ∃ k : Nat, k ≤ 8 ∧ assignId next slots = idAfter^[k] next
      ∧ ∀ j, j < k → ∃ f ∈ slots, f.state ≠ .free ∧ f.id = idAfter^[j] next)

/-- With no candidate and a slot to take, the step writes a FORMING front with one entry, a fresh id, both flags
clear, velocity 0 and every arrival NONE into that slot, and the next front id becomes the id after it. With no slot
to take, the table stays as it was and the unplaced counter rises. Either way the sighting leaves its label. The
exception record, the disabled counters and the pending events are those that the step's reports leave: for each slot
in order whose bearing test met an UNSET sector, UNSET OPERAND with that slot's front; then for a new front an UNSET
dust class or peak speed. Stated for a fusion that no overrun has stopped. -/
def Obligations.OnsetWithoutCandidateCreatesAFrontOrIsUnplaced : Prop :=
  ∀ (s : State) (l : Label) (g : Sighting) (rest : List Sighting),
    s.resetHeld = false → s.mode.runs = true → s.fusion.fusing = some l → l.sightings = g :: rest →
    s.fusion.stopping = false → g.kind = .onset → bestSlot s.profile g s.table.slots = none →
    ∃ b : State, b = (s.table.slots.zipIdx.filter (fun x => (slotTest s.profile g x.1).2)).foldl
        (fun (v : State) (x : Front × Nat) =>
          report ⟨x.1.id, x.2, some (g.source, g.sid), l.number⟩ v ⟨.unsetOperand, 1⟩) s ∧
    (∀ (i : Nat) (id : Byte), slotForNew l.now s.table.slots = some i →
      id = assignId s.table.nextId (s.table.slots.set i (Front.empty s.profile.zoneCount)) →
      ∃ t, exec .sightingStepEnd s = .next t
        ∧ t.table = { s.table with
            nextId := if id = 255 then 1 else id + 1
            slots := s.table.slots.set i
              { state := .forming, id := id, stalled := false, valid := false, vx := 0, vy := 0
                track := [⟨g.source, g.sid, g.time, g.peak, g.sector, g.dust, false⟩]
                dustI := g.dust, peakI := g.peak
                arrivals := List.replicate s.profile.zones.length .none } }
        ∧ t.fusion = { s.fusion with fusing := some { l with sightings := rest } }
        ∧ (∃ u : State, u = ((if g.dust = none then [(⟨.unsetOperand, 2⟩ : ExcReport)] else [])
              ++ (if g.peak = none then [(⟨.unsetOperand, 3⟩ : ExcReport)] else [])).foldl
                (report ⟨id, i, some (g.source, g.sid), l.number⟩) b
            ∧ (t.exc, t.counters, t.panel) = (u.exc, u.counters, u.panel))
        ∧ t.counters.unplaced = s.counters.unplaced
        ∧ t = { s with
            table := t.table, fusion := t.fusion, exc := t.exc, counters := t.counters
            panel := { s.panel with events := t.panel.events }, line := { s.line with openFresh := false } })
    ∧ (slotForNew l.now s.table.slots = none →
      ∃ t, exec .sightingStepEnd s = .next t
        ∧ t.table = s.table
        ∧ t.fusion = { s.fusion with fusing := some { l with sightings := rest } }
        ∧ (t.exc, t.panel) = (b.exc, b.panel)
        ∧ t.counters = { b.counters with unplaced := satInc s.counters.unplaced }
        ∧ t = { s with
            fusion := t.fusion, exc := t.exc, counters := t.counters
            panel := { s.panel with events := t.panel.events }, line := { s.line with openFresh := false } })

/-- The entry with the SUBSIDE's source and onset ref in the lowest occupied slot that holds one is marked subsided; a
FORMING or TRACKED front whose entries are then all subsided becomes DECAYING; no other slot, no id, no velocity
changes. The exception record, the disabled counters and the pending events are those that the reports of the front's
recomputation leave: an UNSET intensity, then the arrival list. With no such entry the table stays and the subside-
unmatched counter rises. The cut flag makes no difference. Stated for a fusion that no overrun has stopped. -/
def Obligations.SubsideMarksTheLowestMatchingEntry : Prop :=
  ∀ (s : State) (l : Label) (g : Sighting) (rest : List Sighting) (ref : Byte),
    s.resetHeld = false → s.mode.runs = true → s.fusion.fusing = some l → l.sightings = g :: rest →
    s.fusion.stopping = false → g.kind = .subside → g.onsetRef = some ref →
    (∀ (i : Nat) (f : Front), s.table.slots[i]? = some f → f.state ≠ .free →
      (∃ e ∈ f.track, e.station = g.source ∧ e.sid = ref) →
      (∀ j f', j < i → s.table.slots[j]? = some f' → f'.state ≠ .free →
        ∀ e ∈ f'.track, ¬(e.station = g.source ∧ e.sid = ref)) →
      ∃ (t u : State) (f' : Front), exec .sightingStepEnd s = .next t
        ∧ t.table = { s.table with slots := s.table.slots.set i f' }
        ∧ f'.track = f.track.map (fun e => if e.station = g.source ∧ e.sid = ref then { e with subsided := true } else e)
        ∧ f'.state = (if (f.state = .forming ∨ f.state = .tracked) ∧ (∀ e ∈ f'.track, e.subsided = true)
            then .decaying else f.state)
        ∧ (f'.id, f'.vx, f'.vy, f'.valid, f'.stalled) = (f.id, f.vx, f.vy, f.valid, f.stalled)
        ∧ t.fusion = { s.fusion with fusing := some { l with sightings := rest } }
        ∧ (f'.dustI, f'.peakI, f'.arrivals)
            = (dustIntensity f'.track, peakIntensity f'.track, (arrivalList s.profile f').1)
        ∧ u = ((if f'.dustI = none then [(⟨.unsetOperand, 2⟩ : ExcReport)] else [])
              ++ (if f'.peakI = none then [(⟨.unsetOperand, 3⟩ : ExcReport)] else [])
              ++ (arrivalList s.profile f').2).foldl (report ⟨f.id, i, some (g.source, g.sid), l.number⟩) s
        ∧ (t.exc, t.counters, t.panel) = (u.exc, u.counters, u.panel)
        ∧ t.counters.subsideUnmatched = s.counters.subsideUnmatched
        ∧ t = { s with
            table := t.table, fusion := t.fusion, exc := t.exc, counters := t.counters
            panel := { s.panel with events := t.panel.events }, line := { s.line with openFresh := false } })
    ∧ ((∀ f ∈ s.table.slots, f.state ≠ .free → ∀ e ∈ f.track, ¬(e.station = g.source ∧ e.sid = ref)) →
      exec .sightingStepEnd s = .next { s with
        fusion := { s.fusion with fusing := some { l with sightings := rest } }
        counters := { s.counters with subsideUnmatched := satInc s.counters.subsideUnmatched }
        line := { s.line with openFresh := false } })

/-- At the end of the closing step each slot is aged by the label's now (more than decay time makes a FORMING or
TRACKED front DECAYING, more than decay plus release time frees any slot, an equal age does neither; an age of exactly
2^31 ticks is read as negative and does neither, the model's choice, log 51), the digest of the aged table is stored
for the label (the history then answers it), the fused-through label is the label, and the waiting label, if any,
becomes the fusing one. One evaluation is made over the aged table: zone records, pending events and, with the mode
unchanged, generators are its own. No id is assigned and nothing of the sensing, the queues or the roster changes. A
fusion that an overrun has stopped ends with its sighting step, whose table, exception record and counters are those
of the same step in a fusion not stopped: no aging, no digest stored, the fused-through label where it was, no
evaluation (R40). That a label which waits by then becomes the fusing one, or a held install is made, at the end of
such a stopped fusion is the model's choice (log 49; R38 and R145 give it at the end of a closing step alone), and
that the step under way at an overrun is that of the label's head is its reading (log 28). -/
def Obligations.ClosingStepAgesTheTableAndStoresItsDigest : Prop :=
  (∀ (s : State) (l : Label), s.resetHeld = false → s.mode.runs = true → s.fusion.fusing = some l → l.sightings = [] →
    s.agree.staging.held = false →
    ∃ t, exec .closingStepEnd s = .next t
      ∧ t.table.fusedThrough = some l.number ∧ t.table.nextId = s.table.nextId
      ∧ t.table.slots.length = s.table.slots.length
      ∧ (∀ (i : Nat) (f : Front), s.table.slots[i]? = some f → ∃ f', t.table.slots[i]? = some f'
        ∧ (f.state = .free → f' = f)
        ∧ (f.state ≠ .free →
          ((l.now - f.newest).toInt ≤ s.profile.decayT → f' = f)
          ∧ ((s.profile.decayT : Int) < (l.now - f.newest).toInt →
              (l.now - f.newest).toInt ≤ s.profile.decayT + s.profile.releaseT → f' = { f with state := .decaying })
          ∧ ((s.profile.decayT + s.profile.releaseT : Int) < (l.now - f.newest).toInt →
              f' = Front.empty s.profile.zones.length)))
      ∧ t.agree = { s.agree with
          history := storePair s.agree.history l.number (tableDigest t.table.slots t.table.nextId) }
      ∧ historyOf t.agree.history l.number = some (tableDigest t.table.slots t.table.nextId)
      ∧ t.fusion = { s.fusion with fusing := s.fusion.waiting, waiting := none, stopping := false }
      ∧ t.warn.zones = (evaluate { s with table := t.table }).warn.zones
      ∧ t.panel.events = (evaluate { s with table := t.table }).panel.events
      ∧ (t.mode = s.mode → t.warn = (evaluate { s with table := t.table }).warn)
      ∧ t = { s with
          mode := t.mode, table := t.table, fusion := t.fusion, line := t.line, agree := t.agree, time := t.time
          warn := t.warn, panel := { s.panel with events := t.panel.events }, freeCount := t.freeCount })
  ∧ ∀ (s t0 : State) (l : Label) (g : Sighting) (rest : List Sighting), s.resetHeld = false → s.mode.runs = true →
    s.fusion.fusing = some l → l.sightings = g :: rest → s.fusion.stopping = true →
    exec .sightingStepEnd { s with fusion := { s.fusion with stopping := false } } = .next t0 →
    ∃ t, exec .sightingStepEnd s = .next t
      ∧ (s.agree.staging.held = false →
        (t.table, t.exc, t.counters, t.panel) = (t0.table, t0.exc, t0.counters, t0.panel)
        ∧ t.table.fusedThrough = s.table.fusedThrough
        ∧ t.fusion = { s.fusion with fusing := s.fusion.waiting, waiting := none, stopping := false }
        ∧ t.warn.zones = s.warn.zones
        ∧ t = { s with
            mode := t.mode, table := t.table, fusion := t.fusion, exc := t.exc, line := t.line, time := t.time
            warn := t.warn, counters := t.counters, panel := t.panel, freeCount := t.freeCount })
      ∧ (s.agree.staging.held = true →
        t.table = s.agree.staging.table s.profile ∧ t.agree.installed = true ∧ t.agree.staging.active = false
        ∧ historyOf t.agree.history s.agree.staging.label = some s.agree.staging.digest
        ∧ t.fusion = { s.fusion with fusing := none, waiting := none, stopping := false }
        ∧ t.warn.zones = (evaluate { s with table := t.table }).warn.zones
        ∧ (t.mode = s.mode → t.warn = (evaluate { s with table := t.table }).warn)
        ∧ t.counters.transfersInstalled = satInc s.counters.transfersInstalled)

/-- Two running stations with the same yard profile, equal tables and equal closed labels, and no install held, hold
equal tables and equal labels after any fusion step, whatever their own numbers, exception enables, clocks, roster,
zones and line states; a closing step stores the same digest on both. -/
def Obligations.EqualTablesStayEqualUnderFusion : Prop :=
  ∀ (c : Instr) (s1 s2 t1 t2 : State), (c = .sightingStepEnd ∨ c = .closingStepEnd) →
    s1.resetHeld = false → s1.mode.runs = true → s2.resetHeld = false → s2.mode.runs = true →
    s1.profile = s2.profile → s1.table = s2.table →
    (s1.fusion.fusing, s1.fusion.waiting, s1.fusion.stopping)
      = (s2.fusion.fusing, s2.fusion.waiting, s2.fusion.stopping) →
    s1.agree.staging.held = false → s2.agree.staging.held = false →
    exec c s1 = .next t1 → exec c s2 = .next t2 →
    t1.table = t2.table
    ∧ (t1.fusion.fusing, t1.fusion.waiting, t1.fusion.stopping)
      = (t2.fusion.fusing, t2.fusion.waiting, t2.fusion.stopping)
    ∧ (∀ l, c = .closingStepEnd → s1.fusion.fusing = some l → l.sightings = [] →
        historyOf t1.agree.history l.number = historyOf t2.agree.history l.number)

/-- For every non-negative integer the integer square root is the greatest integer whose square does not exceed it.
With equal first and latest onset times the velocity fields stay and ZERO INTERVAL is reported with the distance of
the stations. Otherwise the raw components are the differences times 10000 over the interval, truncated toward zero; a
magnitude above the ceiling is scaled back to it (SPEED CEILING), one below the floor gives 0, 0 and stalled (SPEED
FLOOR), each reported with the magnitude, and any other is the velocity. Nothing but the four velocity fields changes,
and with a ceiling of at most 3000 every written component lies within -3000..3000. -/
def Obligations.VelocityIsMeasuredAndLimited : Prop :=
  (∀ n : Nat, isqrt n * isqrt n ≤ n ∧ n < (isqrt n + 1) * (isqrt n + 1))
  ∧ (∀ (p : Profile) (f : Front) (a l : Entry) (dt vx0 vy0 : Int) (m0 : Nat),
    f.track.head? = some a → f.track.getLast? = some l → dt = (l.onset - a.onset).toInt →
    vx0 = (((p.position l.station).1 - (p.position a.station).1 : Int) * 10000).tdiv dt →
    vy0 = (((p.position l.station).2 - (p.position a.station).2 : Int) * 10000).tdiv dt →
    m0 = isqrt (vx0 * vx0 + vy0 * vy0).toNat →
    (dt = 0 → reestimate p f = (f, [⟨.zeroInterval, distance (p.position a.station) (p.position l.station)⟩]))
    ∧ (0 < dt → p.speedCeiling < m0 →
        reestimate p f = ({ f with
          vx := (vx0 * p.speedCeiling).tdiv m0, vy := (vy0 * p.speedCeiling).tdiv m0, valid := true, stalled := false },
          [⟨.speedCeiling, m0⟩]))
    ∧ (0 < dt → m0 ≤ p.speedCeiling → m0 < p.speedFloor →
        reestimate p f = ({ f with vx := 0, vy := 0, valid := true, stalled := true }, [⟨.speedFloor, m0⟩]))
    ∧ (0 < dt → m0 ≤ p.speedCeiling → p.speedFloor ≤ m0 →
        reestimate p f = ({ f with vx := vx0, vy := vy0, valid := true, stalled := false }, []))
    ∧ (0 < dt → p.speedCeiling ≤ 3000 →
        -3000 ≤ (reestimate p f).1.vx ∧ (reestimate p f).1.vx ≤ 3000
          ∧ -3000 ≤ (reestimate p f).1.vy ∧ (reestimate p f).1.vy ≤ 3000))

/-- A front without a usable velocity has every item NONE and reports nothing. Otherwise, for each zone in order: a
latest station inside the zone gives its onset time; a closing speed of 0 or less RECEDING; else the lead to the
zone's edge, rounded as the profile says (EARLY down, NEAREST to the nearest, a half upward), gives an arrival time up
to the horizon, and beyond it BEYOND with a HORIZON report of the lead. -/
def Obligations.ArrivalItemsFollowDistanceSpeedAndHorizon : Prop :=
  ∀ (p : Profile) (f : Front) (l : Entry), f.track.getLast? = some l →
    ((f.valid = false ∨ f.stalled = true) → arrivalList p f = (List.replicate p.zones.length .none, []))
    ∧ (f.valid = true → f.stalled = false → (arrivalList p f).1.length = p.zones.length
      ∧ ∀ (i : Nat) (z : YardZone) (dx dy : Int) (dist : Nat), p.zones[i]? = some z →
        dx = z.cx - (p.position l.station).1 → dy = z.cy - (p.position l.station).2 →
        dist = isqrt (dx * dx + dy * dy).toNat →
        (dist ≤ z.radius → (arrivalList p f).1[i]? = some (.time l.onset))
        ∧ (z.radius < dist → (dx * f.vx + dy * f.vy).tdiv dist ≤ 0 → (arrivalList p f).1[i]? = some .receding)
        ∧ (∀ closing lead : Nat, z.radius < dist → (dx * f.vx + dy * f.vy).tdiv dist = closing → 0 < closing →
          (p.rounding = .early ∧ lead = (dist - z.radius) * 10000 / closing
            ∨ p.rounding = .nearest ∧ 2 * lead * closing ≤ 2 * ((dist - z.radius) * 10000) + closing
                ∧ 2 * ((dist - z.radius) * 10000) + closing < 2 * (lead + 1) * closing) →
          (lead ≤ p.horizonT → (arrivalList p f).1[i]? = some (.time (l.onset + BitVec.ofNat 32 lead)))
          ∧ (p.horizonT < lead → (arrivalList p f).1[i]? = some .beyond
              ∧ (⟨.horizon, lead⟩ : ExcReport) ∈ (arrivalList p f).2)))

/-- A report whose code is enabled sets pending, writes the last code, the context and the raw value, raises the count
up to 255 where it stays, whatever pending was before, and raises the EXCEPTION event unless report disable is set; an
event already pending stays pending. A raw value outside 32 bits is held at the nearer end. Nothing else changes.
(R57) -/
def Obligations.EnabledExceptionUpdatesTheRecord : Prop :=
  ∀ (s : State) (cfg : Loaded) (ctx : ExcContext) (x : ExcReport) (n : Nat), s.loader.loaded = some cfg →
    n = (match x.code with
      | .unsetOperand => 0 | .zeroInterval => 1 | .speedCeiling => 2 | .speedFloor => 3 | .horizon => 4) →
    cfg.enables.getLsbD n = true →
    report ctx s x = { s with
      exc := {
        pending := true, lastCode := some x.code, frontId := some ctx.frontId, slot := some ctx.slot
        sighting := ctx.sighting, label := some ctx.label
        raw := BitVec.ofInt 32 (max (-2147483648) (min 2147483647 x.raw))
        count := if s.exc.count = 255 then 255 else s.exc.count + 1 }
      panel := { s.panel with
        events := if cfg.enables.getLsbD 7 then s.panel.events else s.panel.events ||| 4 } }

/-- In every state that serves it, CLEAR EXCEPTION answers OK, clears pending and sets the count to 0, and keeps the
other fields of the record, the EXCEPTION event and the disabled counters. Taken before an enabled exception it leaves
pending set with count 1; taken after it, pending clear with count 0; in both orders the record shows that exception
and the event is raised unless report disable is set. A disabled report leaves the record and raises its counter. The
number of incoming bytes that the command leaves is log 44. -/
def Obligations.ClearExceptionKeepsTheFieldsInEitherOrder : Prop :=
  ∀ s : State, s.resetHeld = false → s.serves = true →
    exec (.clearException []) s = .next { s with
      exc := { s.exc with pending := false, count := 0 }, panel := { s.panel with incoming := some 2, response := [1] } }
    ∧ ∀ (ctx : ExcContext) (x : ExcReport) (t u : State),
      exec (.clearException []) s = .next t → exec (.clearException []) (report ctx s x) = .next u →
      (s.excEnabled x.code = true →
        (report ctx t x).exc = { (report ctx s x).exc with pending := true, count := 1 }
        ∧ u.exc = { (report ctx s x).exc with pending := false, count := 0 }
        ∧ (s.reportDisable = false →
            (report ctx t x).panel.events.getLsbD 2 = true ∧ u.panel.events.getLsbD 2 = true)
        ∧ (s.reportDisable = true →
            (report ctx t x).panel.events = s.panel.events ∧ u.panel.events = s.panel.events))
      ∧ (s.excEnabled x.code = false →
        report ctx s x = { s with counters := s.counters.incDisabled x.code })

/-- The listen timer's expiry starts the open timer with own number x stagger and forms the preference for its MARK.
When the open timer expires in LISTENING, ACTIVE or RESYNC: on an idle line the station begins a MARK with the next
cycle number (0 in LISTENING), its yard clock and its cadence preference (the one formed as the listen time expired,
where its timer led to the MARK: log 22); on a busy line it waits for the frame under way to end; in the receiver's
quiet wait it waits for that. The preference is ALERT exactly when the station's own conditions or a peer's ALERT
PRESENCE of this cycle say so. A frame that starts on the idle line stops the silence timer; one that starts in the
receiver's quiet wait is skipped. At the end of the quiet wait the line is idle; an open timer held by the wait then
sends the MARK, or, where a frame was skipped, restarts with the back-off delay gap + (own number + 1) x stagger x 2.
Holding the timer through the whole wait is the model's choice (log 38). -/
def Obligations.TimersAndTheReceiverOpenACycle : Prop :=
  (∀ s : State, s.resetHeld = false →
    (s.mode = .listening → s.line.listenLeft = some 0 →
      exec .listenTimerExpiry s = .next { s with line := { s.line with
        listenLeft := none, zeroCadence := some s.preference
        openTimer := .ms (s.own.val * s.profile.staggerMs) 0 } })
    ∧ (∀ delay k, (s.mode = .listening ∨ s.mode = .active ∨ s.mode = .resync) → s.line.tx = none →
      s.line.openTimer = .ms delay k →
      (s.line.rx = .idle → exec .openTimerExpiry s = .next { s with line := { s.line with
          openTimer := .stopped, zeroCadence := none
          tx := some ⟨.mark ⟨if s.mode = .listening then 0 else s.line.cycle + 1, s.time.yardClock,
            s.line.zeroCadence.getD s.preference⟩, false⟩ } })
      ∧ ((s.line.rx = .busy ∨ ∃ b, s.line.rx = .collecting b) →
        exec .openTimerExpiry s
          = .next { s with line := { s.line with openTimer := .busy, zeroCadence := none } })
      ∧ (∀ b, s.line.rx = .quietWait b →
        exec .openTimerExpiry s = .next { s with line := { s.line with openTimer := .held } }))
    ∧ (s.preference = .alert ↔
      (∃ f ∈ s.table.slots, f.state ≠ .free) ∨ (∃ q ∈ s.outbound, q.kind = .onset)
        ∨ (s.detector.state = .gusting ∨ s.detector.state = .refractory
            ∨ (∃ k, s.detector.state = .rising k) ∨ ∃ k, s.detector.state = .easing k)
        ∨ ∃ i e p, s.roster.entries[i]? = some e ∧ i ≠ s.own.val ∧ e.last = some p ∧ p.alert = true
            ∧ e.takenIn = some s.line.cycle))
  ∧ (∀ s : State, s.resetHeld = false → s.mode.awake = true →
    (s.line.tx = none → s.line.rx = .idle →
      exec .frameStart s = .next { s with line := { s.line with rx := .busy, silence := false } })
    ∧ ∀ b, s.line.rx = .quietWait b →
      (s.line.tx = none → exec .frameStart s = .next { s with line := { s.line with rx := .quietWait true } })
      ∧ (s.line.openTimer ≠ .held →
        exec .receiverQuietWaitEnd s = .next { s with line := { s.line with rx := .idle } })
      ∧ (s.line.openTimer = .held → s.mode ≠ .mute → b = true →
        exec .receiverQuietWaitEnd s = .next { s with line := { s.line with
          rx := .idle, zeroCadence := none
          openTimer := .ms ((if s.mode = .listening then s.profile.quietGapMs else s.profile.gapMs s.preference)
            + (s.own.val + 1) * s.profile.staggerMs * 2) 0 } })
      ∧ (s.line.openTimer = .held → s.mode ≠ .mute → b = false →
        exec .receiverQuietWaitEnd s = .next { s with line := { s.line with
          rx := .idle, openTimer := .stopped, zeroCadence := none
          tx := some ⟨.mark ⟨if s.mode = .listening then 0 else s.line.cycle + 1, s.time.yardClock,
            s.line.zeroCadence.getD s.preference⟩, false⟩ } }))

/-- At the silence timeout the opportunity ends: the next begins with its silence timer started, or after opportunity
N-1 the counter is ENDED and a station in ACTIVE or RESYNC starts its open timer with gap + own number x stagger, the
gap by its preference at that moment (from there it may enter LULL). A burst cut is counted, and BURST_CUT offered to
the trace with the opportunity's source and index, exactly when a frame was taken or sent in the opportunity; with no
staging to settle that is all that the trace and the pending events take (with one:
StagingIsSettledAtTheEndOfItsOpportunity). The cycle number, cadence and used mark stay. That the preference is formed
after the staging is settled is the model's reading (log 23), and so is the count of a cut in an own opportunity (log
41); that BURST_CUT carries the opportunity that ends is its choice (log 12). -/
def Obligations.SilenceTimeoutEndsTheOpportunity : Prop :=
  ∀ (s : State) (k : Nat), s.resetHeld = false → s.mode.awake = true → s.line.opp = .number k → s.line.silence = true →
    s.line.tx = none →
    ∃ t, exec .silenceTimeout s = .next t
      ∧ (k + 1 < s.profile.stations → t.mode = s.mode
          ∧ t.line = { s.line with
              opp := .number (k + 1), silence := true, oppFrames := false, plan := none, openFresh := false })
      ∧ (s.profile.stations ≤ k + 1 →
          t.line.opp = .ended ∧ t.line.silence = false ∧ t.line.plan = none ∧ t.line.oppFrames = false
          ∧ (t.mode = s.mode ∨ s.mode = .active ∧ t.mode = .lull)
          ∧ (t.mode ≠ .lull → t.line.openTimer =
              if s.mode = .active ∨ s.mode = .resync then
                .ms (s.profile.gapMs t.preference + s.own.val * s.profile.staggerMs) 0
              else .stopped))
      ∧ t.counters.burstCuts = (if s.line.oppFrames then satInc s.counters.burstCuts else s.counters.burstCuts)
      ∧ (s.agree.staging.active = false ∨ s.agree.staging.held = true →
          (t.trace, t.panel) = (if s.line.oppFrames then
              ((offer .burstCut (some (Fin.ofNat 32 k)) none .none s).trace,
                (offer .burstCut (some (Fin.ofNat 32 k)) none .none s).panel)
            else (s.trace, s.panel)))
      ∧ (t.line.cycle, t.line.cadence, t.line.used) = (s.line.cycle, s.line.cadence, s.line.used)
      ∧ (s.agree.staging.active = false →
          t.table = s.table ∧ t.fusion = s.fusion
          ∧ t.agree = { s.agree with staging := { s.agree.staging with discarded := false } })
      ∧ t = { s with
          mode := t.mode, table := t.table, fusion := t.fusion, exc := t.exc, line := t.line, agree := t.agree
          time := t.time, warn := t.warn, trace := t.trace, counters := t.counters
          panel := { s.panel with events := t.panel.events }, freeCount := t.freeCount }

/-- In ACTIVE, in the unused own opportunity on an idle line, the plan is fixed: one PRESENCE, as many SIGHTING frames
as the burst limit and the Outbound Queue give, and the TRANSFER frames handed over. The opportunity is used and the
PRESENCE begins, with FINAL exactly when it is the only frame, carrying the cycle number, the fused-through label with
its digest from the history, the profile digest, the flags, the agreement state, the newest wind and the owned zones.
TRANSFER frames are handed over exactly when the own entry is the lowest that is PRESENT, in the last plurality group
and without NEED_TABLE, an entry requests a table in this cycle or the one before, and the station is AGREED, fused
through the cycle before, with no fusion and no held install: for a table with no occupied slot one frame with slot
none, otherwise one for each occupied slot in ascending order with its record (of which the frame's bytes do not carry
the derived fields), each with the label, its digest, the next front id and the occupied count. That 1 ms has passed
is the sender's word (log 36). -/
def Obligations.PlanIsFixedAndItsPresenceBegins : Prop :=
  (∀ s : State, s.resetHeld = false → s.mode = .active → s.line.opp = .number s.own.val → s.line.used = false →
    s.line.rx = .idle → s.line.tx = none →
    ∃ (items : List PlanItem) (p : Presence),
      items = .presence :: List.replicate (min s.profile.burstLimit s.outbound.length) .sighting
        ++ s.transferFrames.map .transfer
      ∧ exec .planFix s = .next { s with line := { s.line with
          used := true, silence := false
          tx := some ⟨.presence p, items.length == 1⟩
          plan := some ⟨items, some (.presence p), 0, .frameEnd, s.transferFrames.length⟩ } }
      ∧ p.cycle = s.line.cycle ∧ p.fused = s.table.fusedThrough ∧ p.profileDigest = s.profileDigest
      ∧ (∀ label d, s.table.fusedThrough = some label → historyOf s.agree.history label = some d → p.digest = some d)
      ∧ (p.alert = true ↔ (∃ f ∈ s.table.slots, f.state ≠ .free) ∨ (∃ q ∈ s.outbound, q.kind = .onset)
          ∨ s.detector.state = .gusting ∨ s.detector.state = .refractory
          ∨ (∃ k, s.detector.state = .rising k) ∨ ∃ k, s.detector.state = .easing k)
      ∧ (p.needTable = true ↔ s.agree.state ≠ .agreed ∧ s.agree.installed = false)
      ∧ p.sensorFault = s.detector.sensorFault ∧ p.agree = s.agree.state
      ∧ p.wind = s.sensor.speed ∧ p.sector = s.sensor.sector
      ∧ p.channels = [0, 1, 2, 3].map (fun k => (s.warn.zones[k]?).map (fun z => (z.zone, z.level))))
  ∧ ∀ (s : State) (ok : RosterEntry → Nat → Prop),
    (∀ e i, ok e i ↔ e.state = .present ∧ (∃ m ∈ s.agree.group, m.val = i)
      ∧ ∀ p, e.last = some p → p.needTable = false) →
    (s.transferFrames ≠ [] ↔
      (∃ e, s.roster.entries[s.own.val]? = some e ∧ ok e s.own.val)
      ∧ (∀ (j : Nat) (e : RosterEntry), j < s.own.val → s.roster.entries[j]? = some e → ¬ ok e j)
      ∧ (∃ e ∈ s.roster.entries, ∃ p, e.last = some p ∧ p.needTable = true
          ∧ (e.takenIn = some s.line.cycle ∨ e.takenIn = some (s.line.cycle - 1)))
      ∧ s.agree.state = .agreed ∧ s.table.fusedThrough = some (s.line.cycle - 1)
      ∧ s.fusion.fusing = none ∧ s.agree.staging.held = false)
    ∧ ∀ d, s.transferFrames ≠ [] → historyOf s.agree.history (s.line.cycle - 1) = some d →
      ((∀ f ∈ s.table.slots, f.state = .free) →
        s.transferFrames = [⟨s.line.cycle - 1, d, s.table.nextId, 0, none⟩])
      ∧ ((∃ f ∈ s.table.slots, f.state ≠ .free) →
        s.transferFrames = (s.table.slots.zipIdx.filter (fun x => x.1.state != .free)).map (fun x =>
          ⟨s.line.cycle - 1, d, s.table.nextId, (s.table.slots.filter (fun f => f.state != .free)).length,
            some (Fin.ofNat 8 x.2, x.1)⟩))

/-- When the next frame of a plan is due on an idle line, a SIGHTING takes the head of the Outbound Queue at that
moment, a TRANSFER its own contents, and FINAL is set exactly on the last frame. A repeat sends the same frame, byte
for byte. With a frame arriving from elsewhere the rest of the plan is abandoned and the sightings stay queued. -/
def Obligations.LaterFramesBeginOnAnIdleLine : Prop :=
  ∀ (s : State) (p : Plan), s.resetHeld = false → s.mode.awake = true → s.line.tx = none → s.line.plan = some p →
    (∀ g q, p.wait = .nextStart → s.line.rx = .idle → p.items.head? = some .sighting → s.outbound = g :: q →
      exec .nextFrameStart s = .next { s with line := { s.line with
        silence := false, tx := some ⟨.sighting g, p.items.length == 1⟩
        plan := some { p with current := some (.sighting g), wait := .frameEnd } } })
    ∧ (∀ f, p.wait = .nextStart → s.line.rx = .idle → p.items.head? = some (.transfer f) →
      exec .nextFrameStart s = .next { s with line := { s.line with
        silence := false, tx := some ⟨.transfer f, p.items.length == 1⟩
        plan := some { p with current := some (.transfer f), wait := .frameEnd } } })
    ∧ (∀ b, p.wait = .repeatStart → s.line.rx = .idle → p.current = some b →
      exec .frameRepeat s = .next { s with line := { s.line with
        silence := false, tx := some ⟨b, p.items.length == 1⟩, plan := some { p with wait := .frameEnd } } })
    ∧ (p.wait = .nextStart → s.line.rx ≠ .idle →
      exec .nextFrameStart s = .next { s with line := { s.line with plan := none } })
    ∧ (p.wait = .repeatStart → s.line.rx ≠ .idle →
      exec .frameRepeat s = .next { s with line := { s.line with plan := none } })

/-- At an echo mismatch of a frame other than a MARK the line is released, the failure counted and traced with the
attempt number, the frame on the line collected, and the silence timer restarted. Below three attempts the frame waits
for its repeat. At the third it is dropped and counted: a PRESENCE or SIGHTING leaves the plan, which goes on; a
SIGHTING also leaves the Outbound Queue; a TRANSFER ends the plan. (The LULL test follows; `finish` is stated on its
own. The restart of the silence timer at the failure itself is the model's reading, log 19.) -/
def Obligations.EchoFailureIsRepeatedThenDropped : Prop :=
  ∀ (s : State) (b : Body) (final : Bool) (p : Plan), s.resetHeld = false → s.mode.awake = true →
    s.line.tx = some ⟨b, final⟩ → b.kind ≠ .mark → s.line.plan = some p →
    (p.attempts + 1 < 3 →
      exec .echoFail s = .next (finish (offer .echoFail (some s.own) (some b.kind) (.count (p.attempts + 1))
        { s with
          line := { s.line with
            tx := none, rx := .collecting false, silence := s.line.opp.isNumber
            plan := some { p with attempts := p.attempts + 1, wait := .repeatStart } }
          counters := { s.counters with echoFailures := satInc s.counters.echoFailures } })))
    ∧ (3 ≤ p.attempts + 1 →
      ∃ t, exec .echoFail s = .next (finish t)
        ∧ t.line = { s.line with
            tx := none, rx := .collecting false, silence := s.line.opp.isNumber
            plan := if b.kind = .transfer ∨ p.items.length ≤ 1 then none
              else some { p with items := p.items.drop 1, current := none, attempts := 0, wait := .nextStart } }
        ∧ t.outbound = (if b.kind = .sighting then s.outbound.drop 1 else s.outbound)
        ∧ t.counters = { s.counters with
            echoFailures := satInc s.counters.echoFailures, framesDropped := satInc s.counters.framesDropped }
        ∧ t.trace = (offer .echoFail (some s.own) (some b.kind) (.count (p.attempts + 1)) s).trace
        ∧ t.panel = (offer .echoFail (some s.own) (some b.kind) (.count (p.attempts + 1)) s).panel
        ∧ t = { s with
            outbound := t.outbound, line := t.line, counters := t.counters, trace := t.trace
            panel := { s.panel with events := t.panel.events } })

/-- When the echo of a frame of the plan succeeds in an opportunity k, with FINAL or without: it is traced as
FRAME_OUT and its sender marked heard; a PRESENCE is recorded in the own roster entry; a SIGHTING leaves the Outbound
Queue and enters the own OPEN label, or is refused and counted by a label of 32; the last TRANSFER counts and traces a
transfer sent; no own TRANSFER is staged. Without FINAL the opportunity goes on with its silence timer restarted; with
FINAL the next begins, or after opportunity N-1 the counter is ENDED. With no staging to settle nothing else is
counted, traced or fused. The frames taken counter does not rise. That FRAME_OUT stands before TRANSFER_SENT, and that
both carry the counter before FINAL moves it, is the model's choice (log 12). -/
def Obligations.SentFrameIsTakenByItsSender : Prop :=
  ∀ (s : State) (b : Body) (final : Bool) (p : Plan) (k : Nat), s.resetHeld = false → s.mode.awake = true →
    s.line.tx = some ⟨b, final⟩ → b.kind ≠ .mark → s.line.plan = some p → s.line.opp = .number k →
    ∃ t, exec .frameSent s = .next t
      ∧ (final = false → t.mode = s.mode ∧ t.agree = s.agree ∧ t.line = { s.line with
          tx := none, rx := .idle, silence := true, oppFrames := true, openFresh := false
          plan := if p.items.length ≤ 1 then none
            else some { p with items := p.items.drop 1, current := none, attempts := 0, wait := .nextStart } })
      ∧ (final = true →
          t.line.opp = (if k + 1 < s.profile.stations then .number (k + 1) else .ended)
          ∧ t.line.plan = none ∧ t.line.tx = none)
      ∧ (∀ r, b = .presence r → t.outbound = s.outbound ∧ t.roster = { s.roster with
          entries := s.roster.entries.modify s.own.val (fun e =>
              { e with heard := true, last := some r, takenIn := some s.line.cycle
                       profile := if r.profileDigest = s.profileDigest then .same else .mismatch }) })
      ∧ (b.kind ≠ .presence → t.roster = { s.roster with
          entries := s.roster.entries.modify s.own.val (fun e => { e with heard := true }) })
      ∧ (∀ g, b = .sighting g → t.outbound = s.outbound.drop 1
          ∧ ∀ o, s.fusion.openLabel = some o →
            (o.sightings.length < 32 →
              t.fusion.openLabel = some { o with sightings := o.sightings ++ [g] }
              ∧ t.counters.sightingsRefused = s.counters.sightingsRefused)
            ∧ (32 ≤ o.sightings.length → t.fusion.openLabel = some o
              ∧ t.counters.sightingsRefused = satInc s.counters.sightingsRefused))
      ∧ (b.kind ≠ .sighting → t.outbound = s.outbound ∧ t.fusion.openLabel = s.fusion.openLabel
          ∧ t.counters.sightingsRefused = s.counters.sightingsRefused)
      ∧ t.counters.transfersSent = (if b.kind = .transfer ∧ p.items.length ≤ 1 then satInc s.counters.transfersSent
          else s.counters.transfersSent)
      ∧ (final = false ∨ s.agree.staging.active = false →
          t.counters = { s.counters with
            sightingsRefused := t.counters.sightingsRefused, transfersSent := t.counters.transfersSent }
          ∧ t.fusion = { s.fusion with openLabel := t.fusion.openLabel } ∧ t.table = s.table
          ∧ ∃ u : State, u = offer .frameOut (some s.own) (some b.kind) b.detail s
            ∧ (t.trace, t.panel) = (if b.kind = .transfer ∧ p.items.length ≤ 1 then
                ((offer .transferSent (some s.own) (some .transfer) (.count p.transfers) u).trace,
                  (offer .transferSent (some s.own) (some .transfer) (.count p.transfers) u).panel)
              else (u.trace, u.panel)))
      ∧ t.counters.framesTaken = s.counters.framesTaken
      ∧ (t.sensor, t.detector, t.loader) = (s.sensor, s.detector, s.loader)

/-- A MARK has its Line Controller effects on a station in LISTENING, ACTIVE, RESYNC or MUTE: cycle number, cadence,
opportunity 0 with its silence timer, used mark clear, open timer stopped, collision count 0, plan abandoned. The yard
clock takes its time (a difference above the step tolerance is counted unless it is the first adoption), the OPEN
label is closed into the idle, waiting or overrun place and a new one opened, the Roster closes the cycle with the
source heard, raising LINE_LOST exactly when that sets LINE LOST, and an active staging is discarded as STALE.
LISTENING and RESYNC become ACTIVE. A taken MARK is traced as FRAME_IN with the counters before it, an own one as
FRAME_OUT and MARK_OPENED with those it has just set; then come the discard and the entry into DIVERGED, both with
those values too. R185 fixes the values of the own entries only; those of FRAME_IN (log 12) and of the discard and
DIVERGED (logs 11, 12) are the model's choice. The blocks' order at a MARK is the model's reading (log 11), and so is
it that an overrun leaves the head of the FUSING label, whose step is under way, with the mark that the fusion stops
after it, and without that mark where no sighting is left (R40, log 28). -/
def Obligations.MarkRestartsTheCycle : Prop :=
  ∀ (s : State) (c : Instr) (src : Station) (m : MarkBody), s.resetHeld = false → s.mode.awake = true →
    ((∃ frame final, c = .markReceived frame ∧ s.line.tx = none
        ∧ (s.line.rx = .idle ∨ s.line.rx = .busy ∨ ∃ b, s.line.rx = .collecting b)
        ∧ judge s.profile.stations s.own frame = .taken src final (.mark m))
      ∨ (c = .markSent ∧ src = s.own ∧ ∃ final, s.line.tx = some ⟨.mark m, final⟩)) →
    ∃ t, exec c s = .next t
      ∧ t.mode = (if s.mode = .mute then .mute else .active)
      ∧ t.line = { s.line with
          cycle := m.cycle, cadence := m.cadence, opp := .number 0, used := false, oppFrames := false
          wakePending := false, silence := true, openTimer := .stopped, listenLeft := none, zeroCadence := none
          collisions := 0, rx := .idle, tx := none, plan := none }
      ∧ t.time = { s.time with yardClock := m.time, firstAdoption := false }
      ∧ t.counters.clockSteps = (if s.time.firstAdoption = false
            ∧ s.profile.stepTolerance < ((m.time - s.time.yardClock).toInt).natAbs
          then satInc s.counters.clockSteps else s.counters.clockSteps)
      ∧ t.counters.marksOpened = (if c = .markSent then satInc s.counters.marksOpened else s.counters.marksOpened)
      ∧ t.counters.framesTaken = (if c = .markSent then s.counters.framesTaken else satInc s.counters.framesTaken)
      ∧ t.fusion.openLabel = some ⟨m.cycle, []⟩
      ∧ (s.fusion.openLabel = none → t.fusion.fusing = s.fusion.fusing ∧ t.fusion.waiting = s.fusion.waiting
          ∧ t.fusion.stopping = s.fusion.stopping)
      ∧ (∀ o, s.fusion.openLabel = some o →
          (s.fusion.fusing = none → t.fusion.fusing = some ⟨o.number, m.time, o.sightings⟩
            ∧ t.fusion.waiting = s.fusion.waiting ∧ t.fusion.stopping = s.fusion.stopping)
          ∧ (∀ l, s.fusion.fusing = some l → s.fusion.waiting = none →
            t.fusion.fusing = some l ∧ t.fusion.waiting = some ⟨o.number, m.time, o.sightings⟩
            ∧ t.fusion.stopping = s.fusion.stopping)
          ∧ (∀ l w, s.fusion.fusing = some l → s.fusion.waiting = some w →
            t.fusion.fusing = some { l with sightings := l.sightings.take 1 } ∧ t.fusion.waiting = none
            ∧ t.fusion.stopping = (s.fusion.stopping || !l.sightings.isEmpty)
            ∧ t.counters.fusionOverruns = satInc s.counters.fusionOverruns
            ∧ (s.mode ≠ .listening → t.agree.state = .diverged)))
      ∧ t.roster = (s.roster.hear src).close s.own
      ∧ t.panel.events.getLsbD 4 = (s.panel.events.getLsbD 4 || (t.roster.lineLost && !s.roster.lineLost))
      ∧ (s.agree.staging.active = true → t.agree.staging = Staging.empty
          ∧ t.counters.transfersDiscarded = satInc s.counters.transfersDiscarded)
      ∧ (s.agree.staging.active = false → t.agree.staging = { s.agree.staging with discarded := false }
          ∧ t.counters.transfersDiscarded = s.counters.transfersDiscarded)
      ∧ (s.mode ≠ .listening ∨ s.fusion.openLabel = none → ∃ u v w : State,
          u = { s with line := { s.line with cycle := m.cycle, opp := .number 0 } }
          ∧ v = (if c = .markSent then
              offer .markOpened (some s.own) (some .mark) .none (offer .frameOut (some s.own) (some .mark) .none u)
            else { offer .frameIn (some src) (some .mark) .none s with line := u.line })
          ∧ w = (if s.agree.staging.active then
              offer .transferDiscarded (some s.agree.staging.source) (some .transfer) (.discard .stale) v else v)
          ∧ t.trace = (if s.agree.state ≠ .diverged ∧ t.agree.state = .diverged then
              (offer .diverged none none .none w).trace else w.trace))
      ∧ (t.loader, t.table, t.exc, t.sensor, t.outbound) = (s.loader, s.table, s.exc, s.sensor, s.outbound)

/-- A MARK taken in LISTENING makes the station ACTIVE and JOINING, its own MARK there AGREED; a MARK in RESYNC makes
it ACTIVE and DIVERGED (with DIVERGED raised when it was not). None of them runs the check: the last plurality group,
the run count and the history stay. On leaving LISTENING a detector in RISING becomes CALM without its run; any other
state stays; that change is reported and brings one evaluation, with the yard clock adopted and the zones as the close
leaves them (that order is log 11). The close alone changes the zones otherwise. Stated with no OPEN label, as both
states have none. -/
def Obligations.JoiningAndResyncMarksRunNoCheck : Prop :=
  ∀ (s : State) (c : Instr) (own : Bool) (src : Station) (m : MarkBody), s.resetHeld = false →
    ((∃ frame final, c = .markReceived frame ∧ own = false ∧ s.line.tx = none
        ∧ (s.line.rx = .idle ∨ s.line.rx = .busy ∨ ∃ b, s.line.rx = .collecting b)
        ∧ judge s.profile.stations s.own frame = .taken src final (.mark m))
      ∨ (c = .markSent ∧ own = true ∧ src = s.own ∧ ∃ final, s.line.tx = some ⟨.mark m, final⟩)) →
    s.fusion.openLabel = none →
    (s.mode = .listening →
      ∃ t, exec c s = .next t ∧ t.mode = .active
        ∧ t.agree.state = (if own then .agreed else .joining)
        ∧ (t.agree.group, t.agree.runCount, t.agree.history, t.agree.installed)
            = (s.agree.group, s.agree.runCount, s.agree.history, s.agree.installed)
        ∧ (∀ k, s.detector.state = .rising k → t.detector = { s.detector with state := .calm, run := none })
        ∧ ((∀ k, s.detector.state ≠ .rising k) → t.detector = s.detector)
        ∧ ∃ u : State, u = { s with
              detector := t.detector, time := t.time
              warn := { s.warn with
                zones := if t.roster.lineLost ∨ s.warn.pendingAgreed then
                    s.warn.zones.map (fun z => { z with degraded := t.roster.lineLost })
                  else s.warn.zones } }
            ∧ t.warn.zones = (match s.detector.state with
              | .rising _ => (evaluate u).warn.zones
              | _ => u.warn.zones))
    ∧ (s.mode = .resync →
      ∃ t, exec c s = .next t ∧ t.mode = .active ∧ t.agree.state = .diverged
        ∧ (t.agree.group, t.agree.runCount, t.agree.history)
            = (s.agree.group, s.agree.runCount, s.agree.history)
        ∧ (s.agree.state ≠ .diverged → t.agree.installed = false ∧ t.panel.events.getLsbD 3 = true)
        ∧ t.detector = s.detector
        ∧ t.warn.zones = (if t.roster.lineLost ∨ s.warn.pendingAgreed then
            s.warn.zones.map (fun z => { z with degraded := t.roster.lineLost }) else s.warn.zones))

/-- At an echo mismatch of an own MARK the line is released, the collision counted and traced, and the frame on the
line collected; the MARK has no other effect, but that with the line released the conditions of LULL are tested (log
20). At the third in succession the station enters MUTE with reason MARK_CONTENTION: plan abandoned, open timer
stopped, MUTED pending, its counter, cycle number and cadence kept. Entering MUTE at the collision itself is the
model's reading (log 17). -/
def Obligations.MarkCollisionsLeadToMute : Prop :=
  ∀ (s : State) (m : MarkBody) (final : Bool), s.resetHeld = false → s.mode.awake = true → s.mode ≠ .mute →
    s.line.tx = some ⟨.mark m, final⟩ →
    (s.line.collisions + 1 < 3 →
      exec .markCollision s
        = .next (finish (offer .markCollision (some s.own) (some .mark) (.count (s.line.collisions + 1))
          { s with
            line := { s.line with collisions := s.line.collisions + 1, tx := none, rx := .collecting true }
            counters := { s.counters with markCollisions := satInc s.counters.markCollisions } })))
    ∧ (3 ≤ s.line.collisions + 1 →
      ∃ t, exec .markCollision s = .next t ∧ t.mode = .mute
        ∧ t.line = { s.line with
            muteReason := some .markContention, collisions := s.line.collisions + 1, tx := none
            rx := .collecting true, openTimer := .stopped, listenLeft := none, zeroCadence := none, plan := none
            openFresh := false }
        ∧ t.counters = { s.counters with markCollisions := satInc s.counters.markCollisions }
        ∧ t.trace = (offer .markCollision (some s.own) (some .mark) (.count (s.line.collisions + 1)) s).trace
        ∧ t.panel.events
          = (offer .markCollision (some s.own) (some .mark) (.count (s.line.collisions + 1)) s).panel.events ||| 0x100
        ∧ t = { s with
            mode := .mute, line := t.line, counters := t.counters, trace := t.trace
            panel := { s.panel with events := t.panel.events } })

/-- In ACTIVE (no wake pending), MUTE or RESYNC, a frame without FINAL taken from the source whose opportunity runs is
counted and traced, its source heard, and the silence timer restarted; an own plan is abandoned. A PRESENCE is
recorded with the current cycle number, which in RESYNC it has set first, and its profile match. A SIGHTING enters the
OPEN label, or is refused when the label holds 32; in RESYNC a SIGHTING is not queued and a TRANSFER not staged. In
LISTENING the frame is only counted and traced. In each case an open timer that expired while the frame was on the
line, or a frame that follows an own MARK's mismatch, restarts the open timer at its end with the back-off delay gap +
(own number + 1) x stagger x 2, in LISTENING with the QUIET gap; not in MUTE. FRAME_IN carries the counters before the
frame (log 12). (With FINAL: TakenFinalEndsItsOpportunity; a TRANSFER in ACTIVE or MUTE:
TransferFramesAreIgnoredStagedOrDiscarded.) -/
def Obligations.PeerFrameIsTakenInItsOpportunity : Prop :=
  ∀ (s : State) (c : Instr) (frame : List RxChar) (src : Station) (b : Body) (backoff : OpenTimer),
    s.resetHeld = false → s.line.tx = none →
    (s.line.rx = .idle ∨ s.line.rx = .busy ∨ ∃ o, s.line.rx = .collecting o) →
    judge s.profile.stations s.own frame = .taken src false b →
    (c = .presenceReceived frame ∧ b.kind = .presence ∨ c = .sightingReceived frame ∧ b.kind = .sighting
      ∨ c = .transferReceived frame ∧ b.kind = .transfer ∧ (s.mode = .resync ∨ s.mode = .listening)) →
    backoff = (if (s.line.openTimer = .busy ∨ s.line.rx = .collecting true) ∧ s.mode ≠ .mute then
        .ms ((if s.mode = .listening then s.profile.quietGapMs else s.profile.gapMs s.preference)
          + (s.own.val + 1) * s.profile.staggerMs * 2) 0
      else s.line.openTimer) →
    ((s.mode = .active ∧ s.line.wakePending = false ∨ s.mode = .mute ∨ s.mode = .resync) →
      s.line.opp = .number src.val →
      ∃ t, exec c s = .next t ∧ t.mode = s.mode
        ∧ t.line = { s.line with
            rx := .idle, plan := none, silence := true, oppFrames := true, openFresh := false, openTimer := backoff
            cycle := t.line.cycle }
        ∧ (s.mode ≠ .resync ∨ b.kind ≠ .presence → t.line.cycle = s.line.cycle)
        ∧ (∀ p, b = .presence p →
            (s.mode = .resync → t.line.cycle = p.cycle)
            ∧ t.roster = { s.roster with entries := s.roster.entries.modify src.val (fun e =>
              { e with heard := true, last := some p, takenIn := some t.line.cycle
                       profile := if p.profileDigest = s.profileDigest then .same else .mismatch }) }
            ∧ t.fusion = s.fusion
            ∧ t.counters = { s.counters with framesTaken := satInc s.counters.framesTaken })
        ∧ (b.kind ≠ .presence → t.roster = { s.roster with
            entries := s.roster.entries.modify src.val (fun e => { e with heard := true }) })
        ∧ (b.kind ≠ .presence → s.mode = .resync → t.fusion = s.fusion
            ∧ t.counters = { s.counters with framesTaken := satInc s.counters.framesTaken })
        ∧ (∀ g o, b = .sighting g → s.mode ≠ .resync → s.fusion.openLabel = some o →
            (o.sightings.length < 32 →
              t.fusion = { s.fusion with openLabel := some { o with sightings := o.sightings ++ [g] } }
              ∧ t.counters = { s.counters with framesTaken := satInc s.counters.framesTaken })
            ∧ (32 ≤ o.sightings.length → t.fusion = s.fusion
              ∧ t.counters = { s.counters with
                  framesTaken := satInc s.counters.framesTaken
                  sightingsRefused := satInc s.counters.sightingsRefused }))
        ∧ (t.trace, t.panel) = ((offer .frameIn (some src) (some b.kind) b.detail s).trace,
            (offer .frameIn (some src) (some b.kind) b.detail s).panel)
        ∧ t = { s with
            fusion := t.fusion, line := t.line, roster := t.roster, trace := t.trace, counters := t.counters
            panel := { s.panel with events := t.panel.events } })
    ∧ (s.mode = .listening →
      ∃ t, exec c s = .next t
        ∧ t.counters = { s.counters with framesTaken := satInc s.counters.framesTaken }
        ∧ (t.trace, t.panel) = ((offer .frameIn (some src) (some b.kind) b.detail s).trace,
            (offer .frameIn (some src) (some b.kind) b.detail s).panel)
        ∧ t = { s with
            line := { s.line with rx := .idle, plan := none, openFresh := false, openTimer := backoff }
            trace := t.trace, counters := t.counters, panel := { s.panel with events := t.panel.events } })

/-- In ACTIVE (no wake pending), MUTE or RESYNC a frame other than a MARK, without FINAL, from a source other than the
running opportunity's, or taken while the counter is ENDED, is a slot disagreement: the counter takes the source, the
open timer stops, the disagreement is counted, the used mark stays and the silence timer restarts. An active staging
not held is settled: discarded (frames missing, clashing ids, another digest), held while a fusion is in flight, else
installed with its reports and its evaluation; the discarded mark is cleared; a TRANSFER outside RESYNC is then staged
on what that leaves. It is traced as FRAME_IN, the staging's entry, and SLOT_DISAGREE with the counter after the move
and its value before it as detail, before what that TRANSFER brings. While the counter is NONE it stays NONE, with
nothing counted, no silence timer and FRAME_IN alone. In both cases the frame is otherwise taken like any other: its
source is heard, a PRESENCE recorded with the cycle number (which in RESYNC it sets) and its profile match, and
outside RESYNC a SIGHTING added to the OPEN label, or refused and counted where that holds 32. That SLOT_DISAGREE is
offered before a PRESENCE in RESYNC sets the cycle number, and so carries the one before it, is the model's choice
(log 12), and so are FRAME_IN and the staging's entry before the move, and the place of what that TRANSFER brings. -/
def Obligations.SlotDisagreementMovesTheCounter : Prop :=
  ∀ (s : State) (c : Instr) (frame : List RxChar) (src : Station) (b : Body), s.resetHeld = false →
    s.line.tx = none → (s.line.rx = .idle ∨ s.line.rx = .busy ∨ ∃ o, s.line.rx = .collecting o) →
    judge s.profile.stations s.own frame = .taken src false b →
    (c = .presenceReceived frame ∧ b.kind = .presence ∨ c = .sightingReceived frame ∧ b.kind = .sighting
      ∨ c = .transferReceived frame ∧ b.kind = .transfer) →
    (s.mode = .active ∧ s.line.wakePending = false ∨ s.mode = .mute ∨ s.mode = .resync) →
    s.line.opp ≠ .number src.val →
    ∃ t v : State, exec c s = .next t ∧ t.mode = s.mode
      ∧ v = offer .frameIn (some src) (some b.kind) b.detail s
      ∧ t.line.cycle = (match b with
        | .presence p => if s.mode = .resync then p.cycle else s.line.cycle
        | _ => s.line.cycle)
      ∧ (∀ p, b = .presence p → t.roster = { s.roster with
          entries := s.roster.entries.modify src.val (fun e =>
            { e with heard := true, last := some p, takenIn := some t.line.cycle
                     profile := if p.profileDigest = s.profileDigest then .same else .mismatch }) })
      ∧ (b.kind ≠ .presence → t.roster = { s.roster with
          entries := s.roster.entries.modify src.val (fun e => { e with heard := true }) })
      ∧ (s.mode = .resync ∨ b.kind ≠ .sighting ∨ s.fusion.openLabel = none →
          t.fusion.openLabel = s.fusion.openLabel
          ∧ t.counters.sightingsRefused = s.counters.sightingsRefused)
      ∧ (∀ x o, b = .sighting x → s.mode ≠ .resync → s.fusion.openLabel = some o →
          (o.sightings.length < 32 → t.fusion.openLabel = some { o with sightings := o.sightings ++ [x] }
            ∧ t.counters.sightingsRefused = s.counters.sightingsRefused)
          ∧ (32 ≤ o.sightings.length → t.fusion.openLabel = some o
            ∧ t.counters.sightingsRefused = satInc s.counters.sightingsRefused))
      ∧ (s.line.opp ≠ .none →
        ∃ (a : Agree) (e : Option (TraceKind × Detail)) (k : Counters) (raised : Bool) (z w x y : State),
          t.line = { s.line with
              rx := .idle, opp := .number src.val, openTimer := .stopped, silence := true, oppFrames := true
              plan := none, openFresh := false, cycle := t.line.cycle }
          ∧ k = { z.counters with
              framesTaken := satInc s.counters.framesTaken, slotDisagreements := satInc s.counters.slotDisagreements
              transfersDiscarded := k.transfersDiscarded, transfersInstalled := k.transfersInstalled }
          ∧ (s.agree.staging.active = false ∨ s.agree.staging.held = true →
            a = { s.agree with staging := { s.agree.staging with discarded := false } } ∧ e = none ∧ z = v)
          ∧ (s.agree.staging.active = true → s.agree.staging.held = false →
            ((0 < s.agree.staging.residue ∨ idsClash (s.agree.staging.slots s.profile.zoneCount) = true
                ∨ tableDigest (s.agree.staging.slots s.profile.zoneCount) s.agree.staging.nextId
                  ≠ s.agree.staging.digest) →
              a = { s.agree with staging := Staging.empty } ∧ z = v
              ∧ e = some (.transferDiscarded, .discard (if 0 < s.agree.staging.residue then .incomplete
                else if idsClash (s.agree.staging.slots s.profile.zoneCount) then .idClash else .digest)))
            ∧ (s.agree.staging.residue = 0 → idsClash (s.agree.staging.slots s.profile.zoneCount) = false →
              tableDigest (s.agree.staging.slots s.profile.zoneCount) s.agree.staging.nextId
                = s.agree.staging.digest →
              (s.fusion.fusing.isSome = true →
                a = { s.agree with staging := { s.agree.staging with held := true, discarded := false } } ∧ e = none
                ∧ z = v)
              ∧ (s.fusion.fusing = none →
                a = { s.agree with
                  history := storePair s.agree.history s.agree.staging.label s.agree.staging.digest
                  installed := true, staging := Staging.empty }
                ∧ e = some (.transferInstalled, .count s.agree.staging.expected)
                ∧ t.table = s.agree.staging.table s.profile
                ∧ t.fusion = { s.fusion with
                    openLabel := t.fusion.openLabel, fusing := none, waiting := none, stopping := false }
                ∧ z = (t.table.slots.zipIdx.filter (fun q => q.1.state != .free)).foldl
                    (fun (u : State) (q : Front × Nat) =>
                      ((if q.1.dustI = none then [(⟨.unsetOperand, 2⟩ : ExcReport)] else [])
                        ++ (if q.1.peakI = none then [(⟨.unsetOperand, 3⟩ : ExcReport)] else [])
                        ++ (arrivalList s.profile q.1).2).foldl
                      (report ⟨q.1.id, q.2, none, s.agree.staging.label⟩) u) v
                ∧ t.warn = (evaluate { s with table := t.table }).warn
                ∧ raised = (evaluate { s with table := t.table }).panel.events.getLsbD 5)))
          ∧ ((∀ n, e ≠ some (.transferInstalled, .count n)) →
              t.table = s.table ∧ t.warn = s.warn ∧ raised = false
              ∧ t.fusion = { s.fusion with openLabel := t.fusion.openLabel })
          ∧ k.transfersDiscarded = (match e with
              | some (.transferDiscarded, _) => satInc s.counters.transfersDiscarded
              | _ => s.counters.transfersDiscarded)
          ∧ k.transfersInstalled = (match e with
              | some (.transferInstalled, _) => satInc s.counters.transfersInstalled
              | _ => s.counters.transfersInstalled)
          ∧ w = (match e with
            | some (kind, d) => offer kind (some s.agree.staging.source) (some .transfer) d z
            | none => z)
          ∧ x = offer .slotDisagree (some src) (some b.kind) (.opp s.line.opp)
              { w with line := { s.line with opp := .number src.val }, agree := a, counters := k }
          ∧ y = (match b with
            | .transfer f => if s.mode = .resync then x else takeTransfer src f x
            | _ => x)
          ∧ t.agree = y.agree ∧ t.trace = y.trace ∧ t.exc = z.exc
          ∧ t.counters = { y.counters with sightingsRefused := t.counters.sightingsRefused }
          ∧ t.panel = { y.panel with events := withEvent raised .zoneRaised y.panel.events })
      ∧ (s.line.opp = .none → ∃ y : State,
          t.line = { s.line with
              rx := .idle, silence := false, oppFrames := false, plan := none, openFresh := false
              openTimer := if (s.line.openTimer = .busy ∨ s.line.rx = .collecting true) ∧ s.mode ≠ .mute then
                  .ms (s.profile.gapMs s.preference + (s.own.val + 1) * s.profile.staggerMs * 2) 0
                else s.line.openTimer
              cycle := t.line.cycle }
          ∧ y = (match b with
            | .transfer f =>
              if s.mode = .resync then { v with counters.framesTaken := satInc s.counters.framesTaken }
              else takeTransfer src f { v with counters.framesTaken := satInc s.counters.framesTaken }
            | _ => { v with counters.framesTaken := satInc s.counters.framesTaken })
          ∧ (t.agree, t.trace, t.panel) = (y.agree, y.trace, y.panel)
          ∧ t.fusion = { s.fusion with openLabel := t.fusion.openLabel }
          ∧ t.counters = { y.counters with sightingsRefused := t.counters.sightingsRefused }
          ∧ (t.table, t.warn, t.exc) = (s.table, s.warn, s.exc))
      ∧ t = { s with
          table := t.table, fusion := t.fusion, exc := t.exc, line := t.line, roster := t.roster, agree := t.agree
          warn := t.warn, trace := t.trace, counters := t.counters, panel := t.panel }

/-- With wake pending, a taken frame that is not a MARK enters RESYNC: a missed mark counted, the OPEN label
discarded, a staging cleared, wake pending cleared, the open timer stopped, the counter at the source without a slot
disagreement. A PRESENCE sets the cycle number and is recorded under it; a SIGHTING is not queued and a TRANSFER not
staged; the source is heard. It is traced as FRAME_IN and then RESYNC, both with the cycle number and the opportunity
that the entry has set (the worked example of a divergence). Stated without FINAL. -/
def Obligations.FirstFrameAfterAWakeEntersResync : Prop :=
  ∀ (s : State) (c : Instr) (frame : List RxChar) (src : Station) (b : Body), s.resetHeld = false → s.mode = .active →
    s.line.wakePending = true → s.line.tx = none →
    (s.line.rx = .idle ∨ s.line.rx = .busy ∨ ∃ o, s.line.rx = .collecting o) →
    judge s.profile.stations s.own frame = .taken src false b →
    (c = .presenceReceived frame ∧ b.kind = .presence ∨ c = .sightingReceived frame ∧ b.kind = .sighting
      ∨ c = .transferReceived frame ∧ b.kind = .transfer) →
    ∃ t, exec c s = .next t ∧ t.mode = .resync
      ∧ t.line = { s.line with
          cycle := (match b with | .presence p => p.cycle | _ => s.line.cycle), wakePending := false
          opp := .number src.val, openTimer := .stopped, silence := true, oppFrames := true, rx := .idle, plan := none
          openFresh := false }
      ∧ t.fusion = { s.fusion with openLabel := none } ∧ t.agree = { s.agree with staging := Staging.empty }
      ∧ t.counters = { s.counters with
          framesTaken := satInc s.counters.framesTaken, missedMarks := satInc s.counters.missedMarks }
      ∧ (∀ e, s.roster.entries[src.val]? = some e → ∃ e', t.roster.entries[src.val]? = some e' ∧ e'.heard = true
          ∧ ∀ p, b = .presence p → e'.last = some p ∧ e'.takenIn = some p.cycle)
      ∧ (∃ u : State, u = offer .frameIn (some src) (some b.kind) b.detail { s with line := t.line }
          ∧ (t.trace, t.panel) = ((offer .resync (some src) (some b.kind) .none u).trace,
              (offer .resync (some src) (some b.kind) .none u).panel))
      ∧ t = { s with
          mode := t.mode, fusion := t.fusion, line := t.line, roster := t.roster, agree := t.agree, trace := t.trace
          counters := t.counters, panel := { s.panel with events := t.panel.events } }

/-- In ACTIVE or MUTE, in the source's opportunity and without FINAL: in AGREED, with the installed mark, a held
install or the discarded mark set, or with no staging active from a source outside the last plurality group or for
another label than the cycle before, the frame is ignored and counted. Otherwise, with no staging active, it opens
one. Added to an active staging, a frame that differs in its header or carries a slot beyond the count discards it
with reason MISMATCH, and one that repeats a slot, or none, with reason REPEAT: counted, marked, and
TRANSFER_DISCARDED offered with the staging's source and that reason; any other is stored. In every case the frame is
counted as taken and traced as FRAME_IN, its source is heard, the line is idle with the silence timer restarted, an
own plan is abandoned, and an open timer that expired during the frame, or waited for it after an own MARK's mismatch,
restarts with the back-off delay, not in MUTE. Nothing else changes. That FRAME_IN stands before the other entry is
the model's choice (log 12). -/
def Obligations.TransferFramesAreIgnoredStagedOrDiscarded : Prop :=
  ∀ (s : State) (frame : List RxChar) (src : Station) (f : TransferBody), s.resetHeld = false →
    s.line.tx = none → (s.line.rx = .idle ∨ s.line.rx = .busy ∨ ∃ o, s.line.rx = .collecting o) →
    judge s.profile.stations s.own frame = .taken src false (.transfer f) →
    (s.mode = .active ∧ s.line.wakePending = false ∨ s.mode = .mute) → s.line.opp = .number src.val →
    ∃ (t v : State) (k : Counters), exec (.transferReceived frame) s = .next t
      ∧ v = offer .frameIn (some src) (some .transfer) (.count f.count) s
      ∧ k = { s.counters with framesTaken := satInc s.counters.framesTaken }
      ∧ t.line = { s.line with
          rx := .idle, plan := none, silence := true, oppFrames := true, openFresh := false
          openTimer := if (s.line.openTimer = .busy ∨ s.line.rx = .collecting true) ∧ s.mode ≠ .mute then
              .ms (s.profile.gapMs s.preference + (s.own.val + 1) * s.profile.staggerMs * 2) 0
            else s.line.openTimer }
      ∧ t.roster = { s.roster with
          entries := s.roster.entries.modify src.val (fun e => { e with heard := true }) }
      ∧ ((s.agree.state = .agreed ∨ s.agree.installed = true ∨ s.agree.staging.held = true
            ∨ s.agree.staging.discarded = true
            ∨ s.agree.staging.active = false ∧ (src ∉ s.agree.group ∨ f.label ≠ s.line.cycle - 1)) →
          t.agree = s.agree ∧ (t.trace, t.panel) = (v.trace, v.panel)
          ∧ t.counters = { k with transfersIgnored := satInc s.counters.transfersIgnored })
      ∧ (s.agree.state ≠ .agreed → s.agree.installed = false → s.agree.staging.held = false →
          s.agree.staging.discarded = false →
        (∀ g : Staging,
          (s.agree.staging.active = false ∧ src ∈ s.agree.group ∧ f.label = s.line.cycle - 1
              ∧ ((∃ i r, f.slot = some (i, r) ∧ 0 < f.count ∧ g = {
                    active := true, source := src, label := f.label, digest := f.digest, nextId := f.nextId
                    expected := f.count, received := [i], noneReceived := false, residue := f.count - 1
                    staged := [(i, r)], held := false, discarded := false })
                ∨ f.slot = none ∧ g = {
                    active := true, source := src, label := f.label, digest := f.digest, nextId := f.nextId
                    expected := f.count, received := [], noneReceived := true, residue := f.count, staged := []
                    held := false, discarded := false })
            ∨ s.agree.staging.active = true
              ∧ (s.agree.staging.source, s.agree.staging.label, s.agree.staging.digest, s.agree.staging.nextId,
                  s.agree.staging.expected) = (src, f.label, f.digest, f.nextId, f.count)
              ∧ ((∃ i r, f.slot = some (i, r) ∧ i ∉ s.agree.staging.received ∧ 0 < s.agree.staging.residue
                  ∧ g = { s.agree.staging with
                      received := s.agree.staging.received ++ [i], staged := s.agree.staging.staged ++ [(i, r)]
                      residue := s.agree.staging.residue - 1 })
                ∨ f.slot = none ∧ s.agree.staging.noneReceived = false
                  ∧ g = { s.agree.staging with noneReceived := true })) →
          t.agree = { s.agree with staging := g } ∧ (t.counters, t.trace, t.panel) = (k, v.trace, v.panel))
        ∧ (∀ (r : DiscardReason) (u : State), s.agree.staging.active = true →
          (r = .mismatch
              ∧ ((s.agree.staging.source ≠ src ∨ s.agree.staging.label ≠ f.label ∨ s.agree.staging.digest ≠ f.digest
                  ∨ s.agree.staging.nextId ≠ f.nextId ∨ s.agree.staging.expected ≠ f.count)
                ∨ f.slot ≠ none ∧ s.agree.staging.residue = 0)
            ∨ r = .repeated
              ∧ (s.agree.staging.source, s.agree.staging.label, s.agree.staging.digest, s.agree.staging.nextId,
                  s.agree.staging.expected) = (src, f.label, f.digest, f.nextId, f.count)
              ∧ ((∃ i x, f.slot = some (i, x) ∧ 0 < s.agree.staging.residue ∧ i ∈ s.agree.staging.received)
                ∨ f.slot = none ∧ s.agree.staging.noneReceived = true)) →
          u = offer .transferDiscarded (some s.agree.staging.source) (some .transfer) (.discard r) v →
          t.agree = { s.agree with staging := { Staging.empty with discarded := true } }
          ∧ t.counters = { k with transfersDiscarded := satInc s.counters.transfersDiscarded }
          ∧ (t.trace, t.panel) = (u.trace, u.panel)))
      ∧ t = { s with
          line := t.line, roster := t.roster, agree := t.agree, trace := t.trace, counters := t.counters
          panel := { s.panel with events := t.panel.events } }

/-- A frame other than a MARK, taken with FINAL in its source's opportunity in ACTIVE, MUTE or RESYNC, ends that
opportunity with no burst cut: the next begins with its silence timer, or after opportunity N-1 the counter is ENDED
and a station in ACTIVE or RESYNC starts its open timer with gap + own number x stagger (from ACTIVE it may enter
LULL). The source is heard, a PRESENCE recorded with the cycle number, which in RESYNC it has set first; a SIGHTING
enters the OPEN label unless that holds 32, and in RESYNC it is not queued and a TRANSFER not staged. The staging that
the frame leaves is settled: discarded with frames missing, clashing ids or another digest, held while a fusion is in
flight, else installed with one evaluation over the new table; and the discarded mark is cleared. With FINAL, a frame
that moves the counter, and the first frame after a wake, end the opportunity of their source in the same way, the
latter in RESYNC; while the counter is NONE it stays NONE. That the preference is formed after the settling is the
model's reading (log 23). -/
def Obligations.TakenFinalEndsItsOpportunity : Prop :=
  ∀ (s : State) (c : Instr) (frame : List RxChar) (src : Station) (b : Body), s.resetHeld = false →
    s.line.tx = none → (s.line.rx = .idle ∨ s.line.rx = .busy ∨ ∃ o, s.line.rx = .collecting o) →
    judge s.profile.stations s.own frame = .taken src true b →
    (c = .presenceReceived frame ∧ b.kind = .presence ∨ c = .sightingReceived frame ∧ b.kind = .sighting
      ∨ c = .transferReceived frame ∧ b.kind = .transfer) →
    ((s.mode = .active ∧ s.line.wakePending = false ∨ s.mode = .mute ∨ s.mode = .resync) →
      s.line.opp = .number src.val →
      ∃ (t : State) (g : Staging), exec c s = .next t
        ∧ g = (match b with
          | .transfer f => if s.mode = .resync then s.agree.staging else (takeTransfer src f s).agree.staging
          | _ => s.agree.staging)
        ∧ t.line.cycle = (match b with
          | .presence p => if s.mode = .resync then p.cycle else s.line.cycle
          | _ => s.line.cycle)
        ∧ (∀ p, b = .presence p → t.roster = { s.roster with
            entries := s.roster.entries.modify src.val (fun e =>
              { e with heard := true, last := some p, takenIn := some t.line.cycle
                       profile := if p.profileDigest = s.profileDigest then .same else .mismatch }) })
        ∧ (b.kind ≠ .presence → t.roster = { s.roster with
            entries := s.roster.entries.modify src.val (fun e => { e with heard := true }) })
        ∧ (s.mode = .resync ∨ b.kind ≠ .sighting ∨ s.fusion.openLabel = none →
            t.fusion.openLabel = s.fusion.openLabel
            ∧ t.counters.sightingsRefused = s.counters.sightingsRefused)
        ∧ (∀ x o, b = .sighting x → s.mode ≠ .resync → s.fusion.openLabel = some o →
            (o.sightings.length < 32 → t.fusion.openLabel = some { o with sightings := o.sightings ++ [x] }
              ∧ t.counters.sightingsRefused = s.counters.sightingsRefused)
            ∧ (32 ≤ o.sightings.length → t.fusion.openLabel = some o
              ∧ t.counters.sightingsRefused = satInc s.counters.sightingsRefused))
        ∧ (s.mode = .resync → t.counters.transfersIgnored = s.counters.transfersIgnored)
        ∧ (src.val + 1 < s.profile.stations → t.mode = s.mode ∧ t.line = { s.line with
            rx := .idle, opp := .number (src.val + 1), silence := true, oppFrames := false, plan := none
            openFresh := false, cycle := t.line.cycle
            openTimer := if (s.line.openTimer = .busy ∨ s.line.rx = .collecting true) ∧ s.mode ≠ .mute then
                .ms (s.profile.gapMs s.preference + (s.own.val + 1) * s.profile.staggerMs * 2) 0
              else s.line.openTimer })
        ∧ (s.profile.stations ≤ src.val + 1 →
          t.line.opp = .ended ∧ t.line.silence = false ∧ t.line.oppFrames = false ∧ t.line.plan = none
          ∧ (t.mode = s.mode ∨ s.mode = .active ∧ t.mode = .lull)
          ∧ (t.mode ≠ .lull → t.line.openTimer =
              if s.mode = .mute then .stopped
              else .ms (s.profile.gapMs t.preference + s.own.val * s.profile.staggerMs) 0))
        ∧ t.counters.framesTaken = satInc s.counters.framesTaken ∧ t.counters.burstCuts = s.counters.burstCuts
        ∧ (g.active = false ∨ g.held = true →
          t.agree.staging = { g with discarded := false } ∧ t.table = s.table ∧ t.warn.zones = s.warn.zones)
        ∧ (g.active = true → g.held = false →
          ((0 < g.residue ∨ idsClash (g.slots s.profile.zoneCount) = true
              ∨ tableDigest (g.slots s.profile.zoneCount) g.nextId ≠ g.digest) →
            t.agree.staging = Staging.empty ∧ t.table = s.table ∧ t.warn.zones = s.warn.zones
            ∧ t.counters.transfersDiscarded = satInc s.counters.transfersDiscarded)
          ∧ (g.residue = 0 → idsClash (g.slots s.profile.zoneCount) = false →
            tableDigest (g.slots s.profile.zoneCount) g.nextId = g.digest →
            (s.fusion.fusing.isSome = true →
              t.agree.staging = { g with held := true, discarded := false } ∧ t.table = s.table
              ∧ t.warn.zones = s.warn.zones)
            ∧ (s.fusion.fusing = none →
              t.table = g.table s.profile ∧ t.agree.installed = true ∧ t.agree.staging = Staging.empty
              ∧ historyOf t.agree.history g.label = some g.digest
              ∧ t.warn.zones = (evaluate { s with table := t.table }).warn.zones
              ∧ (t.mode = s.mode → t.warn = (evaluate { s with table := t.table }).warn)
              ∧ t.counters.transfersInstalled = satInc s.counters.transfersInstalled))))
    ∧ ((s.mode = .active ∧ s.line.wakePending = false ∨ s.mode = .mute ∨ s.mode = .resync) →
      (s.line.opp = .ended ∨ ∃ k, s.line.opp = .number k ∧ k ≠ src.val) →
      ∃ t, exec c s = .next t ∧ t.counters.slotDisagreements = satInc s.counters.slotDisagreements
        ∧ t.counters.burstCuts = s.counters.burstCuts ∧ t.line.plan = none
        ∧ (src.val + 1 < s.profile.stations → t.mode = s.mode ∧ t.line.opp = .number (src.val + 1)
          ∧ t.line.silence = true ∧ t.line.openTimer = .stopped)
        ∧ (s.profile.stations ≤ src.val + 1 → t.line.opp = .ended ∧ t.line.silence = false
          ∧ (t.mode = s.mode ∨ s.mode = .active ∧ t.mode = .lull)
          ∧ (t.mode ≠ .lull → t.line.openTimer =
              if s.mode = .mute then .stopped
              else .ms (s.profile.gapMs t.preference + s.own.val * s.profile.staggerMs) 0)))
    ∧ ((s.mode = .active ∧ s.line.wakePending = false ∨ s.mode = .mute ∨ s.mode = .resync) → s.line.opp = .none →
      ∃ t, exec c s = .next t ∧ t.mode = s.mode ∧ t.line.opp = .none ∧ t.line.plan = none
        ∧ t.counters.framesTaken = satInc s.counters.framesTaken)
    ∧ (s.mode = .active → s.line.wakePending = true →
      ∃ t, exec c s = .next t ∧ t.mode = .resync ∧ t.line.wakePending = false ∧ t.fusion.openLabel = none
        ∧ t.agree = { s.agree with staging := Staging.empty }
        ∧ t.counters.missedMarks = satInc s.counters.missedMarks ∧ t.counters.burstCuts = s.counters.burstCuts
        ∧ (src.val + 1 < s.profile.stations → t.line.opp = .number (src.val + 1) ∧ t.line.silence = true
          ∧ t.line.openTimer = .stopped)
        ∧ (s.profile.stations ≤ src.val + 1 → t.line.opp = .ended ∧ t.line.silence = false
          ∧ t.line.openTimer = .ms (s.profile.gapMs t.preference + s.own.val * s.profile.staggerMs) 0))

/-- A frame that fails a receive check changes only its rejection counter, the trace, and the line (idle again,
silence timer restarted within an opportunity, an open timer that expired during it restarted with the back-off
delay). The trace takes CHECK_FAIL, and after it DUPLICATE for the OWN check. A failure of the OWN check makes a
station that is not MUTE enter MUTE with reason DUPLICATE and MUTED pending; in MUTE the reason stays. A cut frame
that follows an own mismatch is neither counted nor traced; that a whole failing frame there is counted and traced
like any other is the model's reading (log 18). At the end of a frame that follows an own MARK's mismatch the open
timer restarts with the back-off delay too. A mismatch that left no character is ended by the empty frame, a cut one,
the model's choice (log 50). -/
def Obligations.RejectedFrameIsCountedAndAnOwnNumberMutes : Prop :=
  ∀ (s : State) (frame : List RxChar) (r : RejectReason) (isCut : Bool) (h : Option Byte), s.resetHeld = false →
    s.mode.awake = true → s.line.tx = none →
    (s.line.rx = .idle ∨ s.line.rx = .busy ∨ ∃ o, s.line.rx = .collecting o) →
    judge s.profile.stations s.own frame = .rejected r isCut h →
    ∃ t u : State, exec (.frameRejected frame) s = .next t
      ∧ (isCut = true → (∃ o, s.line.rx = .collecting o) → u = s ∧ t.counters = s.counters)
      ∧ (isCut = false ∨ (∀ o, s.line.rx ≠ .collecting o) →
        u = offer .checkFail (h.map headerSource) (h.map headerKind) (.reject r) s
        ∧ t.counters = (match r with
          | .check => { s.counters with checkRejections := satInc s.counters.checkRejections }
          | .length => { s.counters with lengthRejections := satInc s.counters.lengthRejections }
          | .source => { s.counters with sourceRejections := satInc s.counters.sourceRejections }
          | .own => { s.counters with ownRejections := satInc s.counters.ownRejections }
          | .field => { s.counters with fieldRejections := satInc s.counters.fieldRejections }))
      ∧ t.trace = (if r = .own then (offer .duplicate (some s.own) (h.map headerKind) .none u).trace else u.trace)
      ∧ (r ≠ .own → t.panel = u.panel)
      ∧ t.line.rx = .idle ∧ t.line.silence = s.line.opp.isNumber
      ∧ (r ≠ .own → t.mode = s.mode
          ∧ t.line = { s.line with
              rx := .idle, silence := s.line.opp.isNumber
              openTimer := if (s.line.openTimer = .busy ∨ s.line.rx = .collecting true) ∧ s.mode ≠ .mute then
                  .ms ((if s.mode = .listening then s.profile.quietGapMs else s.profile.gapMs s.preference)
                    + (s.own.val + 1) * s.profile.staggerMs * 2) 0
                else s.line.openTimer })
      ∧ (r = .own → t.mode = .mute
          ∧ (t.line.opp, t.line.cycle, t.line.cadence) = (s.line.opp, s.line.cycle, s.line.cadence)
          ∧ (s.mode ≠ .mute → t.line.muteReason = some .duplicate ∧ t.line.openTimer = .stopped ∧ t.line.plan = none
              ∧ t.panel.events.getLsbD 8 = true)
          ∧ (s.mode = .mute → t.line.muteReason = s.line.muteReason))
      ∧ t = { s with
          mode := t.mode, line := t.line, trace := t.trace, counters := t.counters
          panel := { s.panel with events := t.panel.events } }

/-- At every close the own entry is PRESENT with count 0, an entry that was heard is PRESENT with count 0, and every
heard flag is cleared. At a counting close an unheard entry's count rises, stopping at 255, and unless it is UNKNOWN
it is PRESENT up to 2, SILENT from 3 to 9, ABSENT from 10; at an opening close it stays. LINE LOST is set when at
three counting closes in succession no other entry was heard, and cleared at the first at which one was; an opening
close leaves both. -/
def Obligations.CycleCloseJudgesEveryEntry : Prop :=
  ∀ (own : Station) (r : Roster), r.quietRun ≤ 3 →
    (r.close own).entries.length = r.entries.length ∧ (r.close own).cycleOpen = true
    ∧ (∀ (i : Nat) (e : RosterEntry), r.entries[i]? = some e → ∃ e', (r.close own).entries[i]? = some e'
      ∧ e'.heard = false ∧ (e'.last, e'.takenIn, e'.profile) = (e.last, e.takenIn, e.profile)
      ∧ ((i = own.val ∨ e.heard = true) → e'.state = .present ∧ e'.unheard = 0)
      ∧ (i ≠ own.val → e.heard = false → r.cycleOpen = false → e'.state = e.state ∧ e'.unheard = e.unheard)
      ∧ (i ≠ own.val → e.heard = false → r.cycleOpen = true →
          e'.unheard = (if e.unheard = 255 then 255 else e.unheard + 1)
          ∧ (e.state = .unknown → e'.state = .unknown)
          ∧ (e.state ≠ .unknown → e'.state =
              if e'.unheard.toNat ≤ 2 then .present else if e'.unheard.toNat ≤ 9 then .silent else .absent)))
    ∧ (r.cycleOpen = false → (r.close own).quietRun = r.quietRun ∧ (r.close own).lineLost = r.lineLost)
    ∧ (r.cycleOpen = true →
      ((∃ i e, r.entries[i]? = some e ∧ i ≠ own.val ∧ e.heard = true) →
        (r.close own).quietRun = 0 ∧ (r.close own).lineLost = false)
      ∧ ((∀ i e, r.entries[i]? = some e → i ≠ own.val → e.heard = false) →
        (r.close own).quietRun = min 3 (r.quietRun + 1)
        ∧ ((r.close own).lineLost = true ↔ r.lineLost = true ∨ 2 ≤ r.quietRun)))

/-- The plurality digest is that of the greatest group, the group with the lowest station on a tie. At a MARK taken or
sent in ACTIVE or MUTE, with no qualifying PRESENCE of the closed cycle the check changes nothing of the agreement;
otherwise the group is recorded, the own history entry for the cycle before the closed one decides (equal: AGREED;
different: DIVERGED, raised when it was not; none: unchanged), the run count returns to 0 in AGREED and rises
otherwise, and the installed mark is cleared. At a MARK that causes a fusion overrun the state is DIVERGED whatever
the comparison gives, and the group, the run count and the installed mark still follow. The order of the close and the
check is free (log 10). -/
def Obligations.CheckFollowsThePluralityDigest : Prop :=
  (∀ q : List (Station × Word16), (q.map (fun x => x.1.val)).Pairwise (· < ·) → q ≠ [] →
    ∃ d, plurality q = some d ∧ groupOf q d ≠ []
      ∧ ∀ d', d' ≠ d → (groupOf q d').length < (groupOf q d).length
        ∨ (groupOf q d').length = (groupOf q d).length ∧ ∃ a ∈ groupOf q d, ∀ b ∈ groupOf q d', a.val < b.val)
  ∧ ∀ (s : State) (c : Instr) (src : Station) (m : MarkBody) (q : List (Station × Word16)), s.resetHeld = false →
    (s.mode = .active ∨ s.mode = .mute) →
    ((∃ frame final, c = .markReceived frame ∧ s.line.tx = none
        ∧ (s.line.rx = .idle ∨ s.line.rx = .busy ∨ ∃ b, s.line.rx = .collecting b)
        ∧ judge s.profile.stations s.own frame = .taken src final (.mark m))
      ∨ (c = .markSent ∧ src = s.own ∧ ∃ final, s.line.tx = some ⟨.mark m, final⟩)) →
    q = qualifying s.line.cycle s.roster.entries →
    ∃ (t : State) (overrun : Bool),
      overrun = (s.fusion.openLabel.isSome && s.fusion.fusing.isSome && s.fusion.waiting.isSome)
      ∧ exec c s = .next t ∧ t.agree.history = s.agree.history
      ∧ (q = [] → (t.agree.group, t.agree.runCount) = (s.agree.group, s.agree.runCount)
          ∧ (overrun = false → (t.agree.state, t.agree.installed) = (s.agree.state, s.agree.installed))
          ∧ (overrun = true → (t.agree.state, t.agree.installed)
              = (.diverged, s.agree.installed && s.agree.state == .diverged)))
      ∧ (∀ d, plurality q = some d → t.agree.group = groupOf q d ∧ t.agree.installed = false
        ∧ t.agree.state = (if overrun then .diverged
            else match historyOf s.agree.history (s.line.cycle - 1) with
              | some x => if x = d then .agreed else .diverged
              | none => s.agree.state)
        ∧ t.agree.runCount = (if t.agree.state = .agreed then 0
            else if s.agree.runCount = 255 then 255 else s.agree.runCount + 1))
      ∧ (t.agree.state = .diverged → s.agree.state ≠ .diverged → t.panel.events.getLsbD 3 = true)

/-- At a MARK in ACTIVE or MUTE, whichever of the close and the check reaches the Warning Unit first: with LINE LOST
as the close leaves it set, or a judged check that leaves a run count of 3 or more, every owned zone is DEGRADED; with
LINE LOST clear and a judged check that leaves AGREED, none is; otherwise the flags stay. Levels, hold timers, sources
and acknowledgements stay. The generators are refreshed with the wanted patterns of the new records, after a refresh
with the records of the first of the two, which are the old or the new ones; and the Warning Unit holds LINE LOST, and
at a judged check the run count and the state. The order is a free value (log 10). -/
def Obligations.DegradedFollowsCloseAndCheckInEitherOrder : Prop :=
  ∀ (s : State) (c : Instr) (src : Station) (m : MarkBody), s.resetHeld = false →
    (s.mode = .active ∨ s.mode = .mute) → s.warn.pendingAgreed = false →
    ((∃ frame final, c = .markReceived frame ∧ s.line.tx = none
        ∧ (s.line.rx = .idle ∨ s.line.rx = .busy ∨ ∃ b, s.line.rx = .collecting b)
        ∧ judge s.profile.stations s.own frame = .taken src final (.mark m))
      ∨ (c = .markSent ∧ src = s.own ∧ ∃ final, s.line.tx = some ⟨.mark m, final⟩)) →
    ∃ (t : State) (judged : Bool), exec c s = .next t
      ∧ (judged = true ↔ qualifying s.line.cycle s.roster.entries ≠ [])
      ∧ t.warn.pendingAgreed = false
      ∧ t.warn.zones =
        (if t.roster.lineLost = true ∨ judged = true ∧ 3 ≤ t.agree.runCount.toNat then
          s.warn.zones.map (fun z => { z with degraded := true })
        else if judged = true ∧ t.agree.state = .agreed then
          s.warn.zones.map (fun z => { z with degraded := false })
        else s.warn.zones)
      ∧ ∃ first : List Zone, (first = s.warn.zones ∨ first = t.warn.zones)
        ∧ t.warn = {
            zones := t.warn.zones, gens := refreshGens t.warn.zones (refreshGens first s.warn.gens)
            lineLost := t.roster.lineLost, runCount := if judged then t.agree.runCount else s.warn.runCount
            agree := if judged then t.agree.state else s.warn.agree, pendingAgreed := false
            secondDue := s.warn.secondDue }

/-- At the silence timeout of the opportunity an active staging with frames missing, with clashing ids or with another
digest is discarded and counted, and TRANSFER_DISCARDED is offered with that reason, the first of the three that
holds; a complete one is held while a fusion is in flight and installed otherwise. An install gives every named slot
its carried record with derived fields recomputed, every other the empty record, the staged next id and label; it
removes the closed labels, stores the pair, sets the installed mark, clears the staging and counts; the agreement
state and the OPEN label stay. Its reports are, slot by slot in order for the occupied ones, an UNSET intensity's
UNSET OPERAND and those of the arrival list, with the front's id and slot, no sighting and the installed label: the
exception record, the disabled counters and the pending events are those that they leave. TRANSFER_INSTALLED is
offered with the snapshot's source and count; the zone records, ZONE_RAISED and, with the mode unchanged, the
generators are those of one evaluation over the new table. A discard and a held staging make no report and no
evaluation. A burst cut of the same timeout is offered first, and the staging's entry carries the opportunity that
ends (the model's choice, log 12). A held install is made at the end of the closing step, before any waiting label,
with the same slots, reports, entry and count, and two evaluations, over the aged table and then over the installed
one. -/
def Obligations.StagingIsSettledAtTheEndOfItsOpportunity : Prop :=
  (∀ (s v : State) (k : Nat), s.resetHeld = false → s.mode.awake = true → s.line.opp = .number k →
    s.line.silence = true → s.line.tx = none → s.agree.staging.active = true → s.agree.staging.held = false →
    v = (if s.line.oppFrames then offer .burstCut (some (Fin.ofNat 32 k)) none .none s else s) →
    ∃ t, exec .silenceTimeout s = .next t
      ∧ t.agree.state = s.agree.state ∧ t.fusion.openLabel = s.fusion.openLabel
      ∧ (∀ r : DiscardReason,
          r = (if 0 < s.agree.staging.residue then .incomplete
            else if idsClash (s.agree.staging.slots s.profile.zoneCount) then .idClash else .digest) →
        (0 < s.agree.staging.residue ∨ idsClash (s.agree.staging.slots s.profile.zoneCount) = true
          ∨ tableDigest (s.agree.staging.slots s.profile.zoneCount) s.agree.staging.nextId ≠ s.agree.staging.digest) →
        t.agree = { s.agree with staging := Staging.empty } ∧ t.table = s.table ∧ t.fusion = s.fusion ∧ t.exc = s.exc
        ∧ t.warn.zones = s.warn.zones
        ∧ t.counters = { s.counters with
            burstCuts := t.counters.burstCuts, transfersDiscarded := satInc s.counters.transfersDiscarded }
        ∧ (t.trace, t.panel) =
          ((offer .transferDiscarded (some s.agree.staging.source) (some .transfer) (.discard r) v).trace,
            (offer .transferDiscarded (some s.agree.staging.source) (some .transfer) (.discard r) v).panel))
      ∧ (s.agree.staging.residue = 0 → idsClash (s.agree.staging.slots s.profile.zoneCount) = false →
        tableDigest (s.agree.staging.slots s.profile.zoneCount) s.agree.staging.nextId = s.agree.staging.digest →
        (s.fusion.fusing.isSome = true →
          t.agree = { s.agree with staging := { s.agree.staging with held := true, discarded := false } }
          ∧ t.table = s.table ∧ t.fusion = s.fusion ∧ (t.exc, t.trace, t.panel) = (s.exc, v.trace, v.panel)
          ∧ t.warn.zones = s.warn.zones
          ∧ t.counters = { s.counters with burstCuts := t.counters.burstCuts })
        ∧ (s.fusion.fusing = none → ∃ (w : State) (raised : Bool),
          t.table.nextId = s.agree.staging.nextId ∧ t.table.fusedThrough = some s.agree.staging.label
          ∧ t.table.slots.length = 8
          ∧ (∀ i : Fin 8, (∀ x, s.agree.staging.staged.find? (fun x => x.1 == i) = some x →
                ∃ f, t.table.slots[i.val]? = some f
                  ∧ (f.state, f.id, f.stalled, f.valid, f.vx, f.vy, f.track)
                    = (x.2.state, x.2.id, x.2.stalled, x.2.valid, x.2.vx, x.2.vy, x.2.track)
                  ∧ (x.2.state ≠ .free → f.dustI = dustIntensity x.2.track ∧ f.peakI = peakIntensity x.2.track
                    ∧ f.arrivals = (arrivalList s.profile x.2).1))
              ∧ (s.agree.staging.staged.find? (fun x => x.1 == i) = none →
                t.table.slots[i.val]? = some (Front.empty s.profile.zones.length)))
          ∧ t.agree.installed = true ∧ t.agree.staging = Staging.empty
          ∧ historyOf t.agree.history s.agree.staging.label = some s.agree.staging.digest
          ∧ t.fusion = { s.fusion with fusing := none, waiting := none, stopping := false }
          ∧ w = (t.table.slots.zipIdx.filter (fun x => x.1.state != .free)).foldl
              (fun (u : State) (x : Front × Nat) =>
                ((if x.1.dustI = none then [(⟨.unsetOperand, 2⟩ : ExcReport)] else [])
                  ++ (if x.1.peakI = none then [(⟨.unsetOperand, 3⟩ : ExcReport)] else [])
                  ++ (arrivalList s.profile x.1).2).foldl
                (report ⟨x.1.id, x.2, none, s.agree.staging.label⟩) u) v
          ∧ t.exc = w.exc
          ∧ t.counters = { w.counters with
              burstCuts := t.counters.burstCuts, transfersInstalled := satInc s.counters.transfersInstalled }
          ∧ t.trace = (offer .transferInstalled (some s.agree.staging.source) (some .transfer)
              (.count s.agree.staging.expected) w).trace
          ∧ t.warn.zones = (evaluate { s with table := t.table }).warn.zones
          ∧ (t.mode = s.mode → t.warn = (evaluate { s with table := t.table }).warn)
          ∧ raised = s.warn.zones.any (fun z =>
              let c := (({ s with table := t.table }).computed z.zone).1
              decide (z.level.rank < c.rank ∧ (c = .warn ∨ c = .alarm)))
          ∧ t.panel = { s.panel with
              events := withEvent raised .zoneRaised (offer .transferInstalled (some s.agree.staging.source)
                (some .transfer) (.count s.agree.staging.expected) w).panel.events })))
  ∧ ∀ (s : State) (l : Label), s.resetHeld = false → s.mode.runs = true → s.fusion.fusing = some l →
    l.sightings = [] → s.agree.staging.held = true →
    ∃ t w x y : State, exec .closingStepEnd s = .next t
      ∧ x = evaluate { s with table := agedTable s.profile s.table l } ∧ y = evaluate { x with table := t.table }
      ∧ t.warn.zones = y.warn.zones ∧ (t.mode = s.mode → t.warn = y.warn)
      ∧ t.table.nextId = s.agree.staging.nextId ∧ t.table.fusedThrough = some s.agree.staging.label
      ∧ t.table.slots.length = 8
      ∧ (∀ i : Fin 8, (∀ x, s.agree.staging.staged.find? (fun x => x.1 == i) = some x →
          ∃ f, t.table.slots[i.val]? = some f
            ∧ (f.state, f.id, f.stalled, f.valid, f.vx, f.vy, f.track)
              = (x.2.state, x.2.id, x.2.stalled, x.2.valid, x.2.vx, x.2.vy, x.2.track)
            ∧ (x.2.state ≠ .free → f.dustI = dustIntensity x.2.track ∧ f.peakI = peakIntensity x.2.track
              ∧ f.arrivals = (arrivalList s.profile x.2).1))
        ∧ (s.agree.staging.staged.find? (fun x => x.1 == i) = none →
          t.table.slots[i.val]? = some (Front.empty s.profile.zones.length)))
      ∧ t.agree.installed = true ∧ t.agree.staging.active = false ∧ t.agree.staging.held = false
      ∧ historyOf t.agree.history s.agree.staging.label = some s.agree.staging.digest
      ∧ t.fusion = { s.fusion with fusing := none, waiting := none, stopping := false }
      ∧ w = (t.table.slots.zipIdx.filter (fun x => x.1.state != .free)).foldl
          (fun (u : State) (x : Front × Nat) =>
            ((if x.1.dustI = none then [(⟨.unsetOperand, 2⟩ : ExcReport)] else [])
              ++ (if x.1.peakI = none then [(⟨.unsetOperand, 3⟩ : ExcReport)] else [])
              ++ (arrivalList s.profile x.1).2).foldl
            (report ⟨x.1.id, x.2, none, s.agree.staging.label⟩) u) s
      ∧ t.exc = w.exc
      ∧ t.counters = { w.counters with transfersInstalled := satInc s.counters.transfersInstalled }
      ∧ t.trace = (offer .transferInstalled (some s.agree.staging.source) (some .transfer)
          (.count s.agree.staging.expected) w).trace
      ∧ t.panel = { s.panel with
          events := withEvent (y.panel.events.getLsbD 5) .zoneRaised (offer .transferInstalled
            (some s.agree.staging.source) (some .transfer) (.count s.agree.staging.expected) w).panel.events }

/-- A FREE slot gives no level; an arrival time gives WATCH for a DECAYING front, else ALARM for a strong front within
the alarm lead, else WARN within the warn lead, else WATCH, a lead in the past counting as 0; a FORMING front whose
origin lies within the watch distance gives WATCH; anything else CLEAR. Without the local override the computed level
is the greatest of them, and its source the lowest-numbered slot that gives it; with it, ALARM by the own gust. A
difference of exactly 2^31 ticks is read as negative, the model's choice (log 51). -/
def Obligations.ComputedLevelIsTheGreatestFrontLevel : Prop :=
  (∀ (p : Profile) (yard : Tick) (z : Fin 8) (f : Front),
    (f.state = .free → frontLevel p yard z f = none)
    ∧ (∀ a, f.state ≠ .free → f.arrivals[z.val]? = some (.time a) →
      (f.state = .decaying → frontLevel p yard z f = some .watch)
      ∧ (f.state ≠ .decaying → (a - yard).toInt ≤ p.alarmLeadT →
          ((∃ d, f.dustI = some d ∧ 2 ≤ d.val) ∨ f.dustI = none ∨ (∃ v, f.peakI = some v ∧ p.strongGust ≤ v)) →
          frontLevel p yard z f = some .alarm)
      ∧ (f.state ≠ .decaying →
          ((p.alarmLeadT : Int) < (a - yard).toInt
            ∨ (∃ d, f.dustI = some d ∧ d.val < 2) ∧ (∀ v, f.peakI = some v → v < p.strongGust)) →
          frontLevel p yard z f = if (a - yard).toInt ≤ p.warnLeadT then some .warn else some .watch))
    ∧ (f.state ≠ .free → (∀ a, f.arrivals[z.val]? ≠ some (.time a)) →
      (frontLevel p yard z f = some .watch ↔ f.state = .forming
        ∧ ∃ o c, f.track.head? = some o ∧ p.zones[z.val]? = some c
          ∧ distance (p.position o.station) (c.cx, c.cy) ≤ p.watchDistance)
      ∧ (frontLevel p yard z f = some .watch ∨ frontLevel p yard z f = some .clear)))
  ∧ ∀ (s : State) (z : Fin 8),
    (s.detector.localOverride = true → s.computed z = (.alarm, .ownGust))
    ∧ (s.detector.localOverride = false →
      (∀ f ∈ s.table.slots, ∀ l, frontLevel s.profile s.time.yardClock z f = some l →
        l.rank ≤ (s.computed z).1.rank)
      ∧ ((s.computed z).1 = .clear → (s.computed z).2 = .none)
      ∧ ((s.computed z).1 ≠ .clear → ∃ i f, s.table.slots[i]? = some f ∧ (s.computed z).2 = .front i f.id
          ∧ frontLevel s.profile s.time.yardClock z f = some (s.computed z).1
          ∧ ∀ j f', j < i → s.table.slots[j]? = some f' →
            frontLevel s.profile s.time.yardClock z f' ≠ some (s.computed z).1))

/-- At an evaluation each zone whose computed level is higher takes it at once, whatever its hold timer shows: the
timer stops, the acknowledged flag is cleared, the source is the computed one. A raise to WARN or ALARM raises
ZONE_RAISED, which stays pending as one event; without one the pending events stay. The new level is handed to the
lamp generator and the siren (outside LULL), and the next PRESENCE carries it. (R169) -/
def Obligations.EvaluationRaisesAtOnce : Prop :=
  ∀ (s : State) (k : Nat) (z : Zone), s.warn.zones[k]? = some z → z.level.rank < (s.computed z.zone).1.rank →
    (evaluate s).warn.zones[k]?
        = some { z with
            level := (s.computed z.zone).1, hold := none, ack := false, source := (s.computed z.zone).2 }
    ∧ ((s.computed z.zone).1 = .warn ∨ (s.computed z.zone).1 = .alarm →
        (evaluate s).panel.events = s.panel.events ||| 0x20)
    ∧ ((∀ y ∈ s.warn.zones, (s.computed y.zone).1.rank ≤ y.level.rank ∨ (s.computed y.zone).1 = .watch) →
        (evaluate s).panel.events = s.panel.events)
    ∧ (∀ g, s.mode ≠ .lull → s.warn.gens[k]? = some g → ∃ p g', (evaluate s).warn.gens[k]? = some g'
        ∧ p = (match (s.computed z.zone).1 with
            | .alarm => .alarm | .warn => .warn | .watch => if z.degraded then .fault else .watch | .clear => .off)
        ∧ g' = if p = g.handed then g else g.hand p)
    ∧ (∀ c : Fin 4, c.val = k → s.mode ≠ .lull → (evaluate s).sirenOn c = ((s.computed z.zone).1 == .alarm))
    ∧ (k < 4 → (evaluate s).presence.channels[k]? = some (some (z.zone, (s.computed z.zone).1)))

/-- The evaluation of each second runs while a zone is above CLEAR (judged as the command is taken: log 7). A zone
whose computed level is lower keeps its level and source, and its hold timer starts with the hold time or runs on; one
whose computed level is equal has its timer stopped and takes the computed source. An evaluation changes only zone
records, generators and the pending events; at it and at a hold expiry the generators are handed the wanted patterns
of the new records, outside LULL. When a zone's hold timer has run out, its level falls by one step, the acknowledged
flag is cleared, the timer restarts when the computed level is lower still and stops otherwise, and the source is the
computed one when the levels are equal and kept otherwise; the other zones are dealt with as at any evaluation. The
fall raises no event. A computed level at or above the old one (the book excludes it) also falls one step: model's
choice (log 40). -/
def Obligations.LevelsFallByTheHoldTimerAlone : Prop :=
  ((∀ s : State, s.resetHeld = false → s.mode.runs = true → s.warn.secondDue = true →
    (∃ z ∈ s.warn.zones, z.level ≠ .clear) →
    exec .perSecondEvaluation s = .next (evaluate { s with warn := { s.warn with secondDue := false } }))
  ∧ ∀ s : State,
    (∀ (k : Nat) (z : Zone), s.warn.zones[k]? = some z →
      ((s.computed z.zone).1.rank < z.level.rank →
        (evaluate s).warn.zones[k]? = some { z with hold := some (z.hold.getD s.profile.holdT) })
      ∧ ((s.computed z.zone).1 = z.level →
        (evaluate s).warn.zones[k]? = some { z with hold := none, source := (s.computed z.zone).2 }))
    ∧ (evaluate s).warn.zones.length = s.warn.zones.length
    ∧ (evaluate s).warn = (withZones (evaluate s).warn.zones s).warn
    ∧ evaluate s = { s with
        warn := { s.warn with zones := (evaluate s).warn.zones, gens := (evaluate s).warn.gens }
        panel := { s.panel with events := (evaluate s).panel.events } })
  ∧ ∀ (s : State) (k : Fin 4) (z : Zone), s.resetHeld = false → s.mode.runs = true → s.warn.zones[k.val]? = some z →
    z.hold = some 0 →
    ∃ u, exec (.holdExpiry k) s = .next (finishAtTick u)
      ∧ u.warn.zones[k.val]? = some { z with
          level := (match z.level with | .alarm => .warn | .warn => .watch | .watch => .clear | .clear => .clear)
          ack := false
          hold := if (s.computed z.zone).1.rank < z.level.rank - 1 then some s.profile.holdT else none
          source := if (s.computed z.zone).1.rank = z.level.rank - 1 then (s.computed z.zone).2 else z.source }
      ∧ u.warn.zones.length = s.warn.zones.length ∧ u.warn = (withZones u.warn.zones s).warn
      ∧ (∀ j, j ≠ k.val → u.warn.zones[j]? = (evaluate s).warn.zones[j]?)
      ∧ ((∀ (j : Nat) (y : Zone), j ≠ k.val → s.warn.zones[j]? = some y →
            (s.computed y.zone).1.rank ≤ y.level.rank) → u.panel.events = s.panel.events)
      ∧ u = { s with
          warn := { s.warn with zones := u.warn.zones, gens := u.warn.gens }
          panel := { s.panel with events := u.panel.events } }

/-- The wanted pattern of a channel is ALARM or WARN at those levels, and at WATCH and CLEAR FAULT when the zone is
DEGRADED, else WATCH and OFF; a channel without a zone wants OFF. After a change of the zone records, outside LULL, it
is handed to the generator where it differs from the pattern last handed (R175). A stopped generator handed OFF stays
stopped; handed any other pattern it starts at once with counter 0 and its output on; a running one takes any pattern
into its preload copy, replacing one that waits, and shows its active copy to the period's end (R177). At the period's
end the counter reloads, the preload copy becomes active, and with OFF the generator stops; handed a pattern again
before, it runs on (R176). That the counter waits at the period's length for the command PATTERN_PERIOD_END is the
model's choice (log 7). A period is 40 ticks for ALARM, 100 for WARN, 200 for WATCH and 300 for FAULT, and the output
is on for its first 30, 50, 30 and 150 ticks (R175, R176). From LISTENING onward a lamp line is high while its channel
has a zone and its generator's output is on, and low otherwise, the other way round with ON-LOW; a siren line is high
while its zone is at ALARM and not acknowledged, outside LULL, and low otherwise; in LOADING and CONFIG FAULT both are
released (R178 to R181). -/
def Obligations.GeneratorsTakeTheirPatterns : Prop :=
  (∀ (z : Zone), (z.level = .alarm → z.wanted = .alarm) ∧ (z.level = .warn → z.wanted = .warn)
      ∧ (z.level = .watch → z.wanted = if z.degraded then .fault else .watch)
      ∧ (z.level = .clear → z.wanted = if z.degraded then .fault else .off))
  ∧ (∀ (s : State) (zones : List Zone) (k : Nat) (g : Gen) (p : Pattern), s.warn.gens[k]? = some g →
      (∀ z, zones[k]? = some z → p = z.wanted) → (zones[k]? = none → p = .off) →
      (withZones zones s).warn.gens[k]? = some (if s.mode = .lull ∨ p = g.handed then g else g.hand p))
  ∧ (∀ (g : Gen) (p q : Pattern),
    (g.running = false → (g.hand .off).running = false ∧ (g.hand .off).output = false
      ∧ (p ≠ .off → (g.hand p).running = true ∧ (g.hand p).counter = 0 ∧ (g.hand p).shown = p
          ∧ (g.hand p).preload = p ∧ (g.hand p).output = true))
    ∧ (g.running = true →
      ((g.hand p).running, (g.hand p).counter, (g.hand p).shown, (g.hand p).preload) = (true, g.counter, g.shown, p)
      ∧ (g.hand p).output = g.output
      ∧ (g.hand p).hand q = g.hand q
      ∧ (g.hand .off).periodEnd.running = false
      ∧ (p ≠ .off → ((g.hand .off).hand p).periodEnd.running = true
          ∧ ((g.hand .off).hand p).periodEnd.shown = p)))
  ∧ (∀ (g : Gen) (p : Pattern) (d : Nat),
    (p, d) ∈ [(Pattern.alarm, 30), (.warn, 50), (.watch, 30), (.fault, 150)] → g.shown = p →
      (g.output = true ↔ g.running = true ∧ g.counter < d))
  ∧ (Pattern.period .alarm, Pattern.period .warn, Pattern.period .watch, Pattern.period .fault) = (40, 100, 200, 300)
  ∧ (∀ (s : State) (k : Fin 4) (g : Gen), s.resetHeld = false → s.mode.runs = true → s.warn.gens[k.val]? = some g →
    g.running = true → g.counter = g.shown.period →
    exec (.patternPeriodEnd k) s = .next { s with
      warn := { s.warn with
        gens := s.warn.gens.set k.val ⟨g.preload != .off, 0, g.preload, g.preload, g.handed⟩ } })
  ∧ ∀ (s : State) (k : Fin 4) (on onLow : Bool), s.resetHeld = false →
    (on = true ↔ (∃ z, s.warn.zones[k.val]? = some z)
      ∧ ∃ g, s.warn.gens[k.val]? = some g ∧ g.output = true) →
    (onLow = true ↔ ∃ c, s.loader.loaded = some c ∧ c.entry.onLow = true) →
    (s.mode.runs = true →
      s.lampLine k = (if on = onLow then .low else .high)
      ∧ ((∃ z, s.warn.zones[k.val]? = some z ∧ z.level = .alarm ∧ z.ack = false) → s.mode ≠ .lull →
        s.sirenLine k = .high)
      ∧ ((∀ z, s.warn.zones[k.val]? = some z → z.level ≠ .alarm ∨ z.ack = true) ∨ s.mode = .lull →
        s.sirenLine k = .low))
    ∧ (s.mode.runs = false → s.lampLine k = .released ∧ s.sirenLine k = .released)

/-- A tick advances the local tick and the yard clock by 1. In LISTENING, ACTIVE, RESYNC and MUTE the sample period,
refractory, listen and hold timers and the calibration window count down and running generators count up; in LULL the
timers do so, after the least number of lull periods that brings 50 times them to the calibrated rate, which the open
timer, the wake timer in units of 64, and the capture clock by 5000 each also count; in LOADING and CONFIG FAULT only
the clocks advance. Timers wait at 0 for their expiry command (log 7). No level, table or line record changes. At the
end of a window a count of 12,288..20,480 replaces the calibrated rate and sets the lull clock good mark; any other
keeps the rate, clears the mark and counts a rejection. The next window starts, and the conditions of LULL are tested
as at a tick (log 8). That the next window starts at the same tick is the model's reading (log 26). -/
def Obligations.ClocksTickAndAreCalibrated : Prop :=
  (∀ s : State, s.resetHeld = false → ∃ t, exec .localTick s = .next t
    ∧ t.time.localTick = s.time.localTick + 1 ∧ t.time.yardClock = s.time.yardClock + 1
    ∧ (t.time.rate, t.time.lullGood, t.time.firstAdoption) = (s.time.rate, s.time.lullGood, s.time.firstAdoption)
    ∧ (s.mode.runs = false → t = { s with time := t.time })
    ∧ (s.mode.runs = true →
      t.sensor = { s.sensor with periodLeft := s.sensor.periodLeft.map (· - 1) }
      ∧ t.detector = { s.detector with refractoryLeft := s.detector.refractoryLeft.map (· - 1) }
      ∧ t.warn.zones = s.warn.zones.map (fun z => { z with hold := z.hold.map (· - 1) })
      ∧ t.warn.secondDue = ((s.time.yardClock + 1).toNat % 100 == 0)
      ∧ t = { s with sensor := t.sensor, detector := t.detector, line := t.line, time := t.time, warn := t.warn })
    ∧ (s.mode.awake = true →
      t.line = { s.line with
          listenLeft := s.line.listenLeft.map (· - 1)
          openTimer := match s.line.openTimer with | .ms d k => .ms d (k + 1) | o => o }
      ∧ t.time.calibLeft = some (match s.time.calibLeft with | some k => k - 1 | none => 50)
      ∧ t.time.capture = s.time.capture + 100
      ∧ ∀ (k : Nat) (g : Gen), s.warn.gens[k]? = some g →
        t.warn.gens[k]? = some { g with
          counter := if g.running then min g.shown.period (g.counter + 1) else g.counter })
    ∧ (s.mode = .lull → t.warn.gens = s.warn.gens
      ∧ ∃ n : Nat, s.time.rate ≤ s.time.acc + 50 * n ∧ (∀ m, m < n → s.time.acc + 50 * m < s.time.rate)
        ∧ t.time.acc = s.time.acc + 50 * n - s.time.rate
        ∧ (s.time.rate ≠ 0 →
            t.time.capture = s.time.capture + BitVec.ofNat 32 ((s.time.capAcc + 5000 * n) / s.time.rate)
            ∧ t.time.capAcc = (s.time.capAcc + 5000 * n) % s.time.rate)
        ∧ (∀ w, s.time.wake = some w → t.time.wake = some
            (if w.units + (w.sub + n) / 64 < w.target then ⟨w.target, w.units + (w.sub + n) / 64, (w.sub + n) % 64⟩
              else ⟨w.target, w.target, 0⟩))
        ∧ ∀ p, s.line.openTimer = .lull p → t.line = { s.line with openTimer := .lull (p - n) }))
  ∧ (∀ (s : State) (n : Nat), s.resetHeld = false → s.mode.awake = true → s.time.calibLeft = some 0 →
    (12288 ≤ n → n ≤ 20480 → exec (.calibrationWindowEnd n) s = .next (finishAtTick { s with
      time := { s.time with rate := n, lullGood := true, calibLeft := some 50 } }))
    ∧ ((n < 12288 ∨ 20480 < n) → exec (.calibrationWindowEnd n) s = .next (finishAtTick { s with
      time := { s.time with lullGood := false, calibLeft := some 50 }
      counters := { s.counters with calibrationRejects := satInc s.counters.calibrationRejects } })))

/-- The test that ends every command which changes a condition enters LULL exactly when the ten conditions hold and
nothing is transmitted (log 20): the calibration window is abandoned, the open timer's remaining ms become lull
periods (none where it does not run: log 20), the wake timer starts with its count, the receiver is off, every
generator stopped, and the capture clock goes on from its value; the rest is kept. Otherwise only the model's own mark
is cleared. At a command that comes at a tick the capture clock has counted no unit since it, or those to an edge
taken since; at any other a free number of units, not before the last accepted edge and below the units of a tick. The
ms since the open timer started are known within one tick either way (log 8). -/
def Obligations.LullIsEnteredOnItsTenConditions : Prop :=
  ∀ s : State,
    (s.lullReady = true ↔ s.resetHeld = false ∧ s.profile.lullAllowed = true ∧ s.mode = .active
      ∧ s.line.cadence = .quiet ∧ s.line.opp = .ended ∧ s.line.wakePending = false
      ∧ s.fusion.fusing = none ∧ s.fusion.waiting = none ∧ s.agree.staging.held = false
      ∧ s.agree.staging.active = false ∧ s.outbound = [] ∧ s.detector.state = .calm
      ∧ (∀ z ∈ s.warn.zones, z.level = .clear) ∧ s.time.lullGood = true ∧ s.line.tx = none)
    ∧ finish s = finishAt s.capturePhase s ∧ finishAtTick s = finishAt s.edgeOffset s
    ∧ s.edgeOffset ≤ s.capturePhase ∧ (s.edgeOffset < 100 → s.capturePhase < 100)
    ∧ (∀ a, s.sensor.lastAccepted = some a → (a - s.time.capture).toNat ≤ 101 →
        s.edgeOffset = (a - s.time.capture).toNat)
    ∧ ((∀ a, s.sensor.lastAccepted = some a → 101 < (a - s.time.capture).toNat) → s.edgeOffset = 0)
    ∧ ∀ b : Nat,
      (s.lullReady = false → finishAt b s = { s with line := { s.line with openFresh := false } })
      ∧ (s.lullReady = true →
        (finishAt b s).mode = .lull
        ∧ (finishAt b s).time = { s.time with
            calibLeft := none, acc := 0, capAcc := 0, capture := s.time.capture + BitVec.ofNat 32 b
            wake := some ⟨(s.profile.quietGapMs - s.profile.guardMs) * s.time.rate / 32000, 0, 0⟩ }
        ∧ (∀ d k, s.line.openTimer = .ms d k → ∃ e : Nat, (s.line.openFresh = true → e = 0)
          ∧ (s.line.openFresh = false → 10 * k ≤ e + 10 ∧ e < 10 * (k + 1))
          ∧ (finishAt b s).line = { s.line with
              rx := .off, openFresh := false, openTimer := .lull ((d - e) * s.time.rate / 500) })
        ∧ ((∀ d k, s.line.openTimer ≠ .ms d k) →
          (finishAt b s).line = { s.line with rx := .off, openFresh := false, openTimer := .lull 0 })
        ∧ (finishAt b s).warn = { s.warn with gens := s.warn.gens.map (fun _ => Gen.stopped) }
        ∧ finishAt b s = { s with
            mode := .lull, time := (finishAt b s).time, line := (finishAt b s).line, warn := (finishAt b s).warn
            freeCount := (finishAt b s).freeCount })

/-- Whatever a command changes, if the ten conditions did not all hold before a step (on a station that transmits
nothing: log 20), then after it they do not all hold either: a station for which they come to hold is in LULL at the
end of the very step that makes them hold, the first moment at which they do. -/
def Obligations.LullIsEnteredAtTheFirstMoment : Prop :=
  ∀ s t : State, s.lullReady = false → step s = .next t → t.lullReady = false

/-- When either timer expires in LULL before the next tick, or on the lull period that also reaches it (the model's
choice, log 7), the station is ACTIVE with wake pending, the receiver in its quiet wait, the wake timer stopped and
each generator started on its wanted pattern if that is not OFF. The open timer's remaining periods become ms again;
when its own expiry is the wake, it waits for the receiver and then sends the MARK. The capture clock takes the units
of the periods since the last tick. Nothing else changes. -/
def Obligations.WakesReturnToActive : Prop :=
  ∀ (s : State) (w : WakeTimer) (p d : Nat), s.resetHeld = false → s.mode = .lull → s.time.wake = some w →
    s.line.openTimer = .lull p → d = w.target * 64 - (w.units * 64 + w.sub) →
    (d ≤ s.time.periodsToTick → ∃ t, exec .wakeTimerExpiry s = .next t ∧ t.mode = .active
      ∧ t.line = { s.line with
          wakePending := true, rx := .quietWait false, openTimer := .ms ((p - d) * 500 / s.time.rate) 0 }
      ∧ t.time = { s.time with
          wake := none, acc := 0, capAcc := 0
          capture := s.time.capture + BitVec.ofNat 32 ((s.time.capAcc + 5000 * d) / s.time.rate) }
      ∧ t.warn.zones = s.warn.zones
      ∧ (∀ (k : Nat) (g : Gen), s.warn.gens[k]? = some g → ∃ q, q = wantedAt s.warn.zones k
          ∧ t.warn.gens[k]? = some (if q = .off then Gen.stopped else ⟨true, 0, q, q, q⟩))
      ∧ t = { s with mode := t.mode, time := t.time, line := t.line, warn := { s.warn with gens := t.warn.gens } })
    ∧ (p ≤ s.time.periodsToTick → ∃ t, exec .openTimerExpiry s = .next t ∧ t.mode = .active
      ∧ t.line = { s.line with wakePending := true, rx := .quietWait false, openTimer := .held }
      ∧ t.time = { s.time with
          wake := none, acc := 0, capAcc := 0
          capture := s.time.capture + BitVec.ofNat 32 ((s.time.capAcc + 5000 * p) / s.time.rate) }
      ∧ t.warn.zones = s.warn.zones
      ∧ (∀ (k : Nat) (g : Gen), s.warn.gens[k]? = some g → ∃ q, q = wantedAt s.warn.zones k
          ∧ t.warn.gens[k]? = some (if q = .off then Gen.stopped else ⟨true, 0, q, q, q⟩))
      ∧ t = { s with mode := t.mode, time := t.time, line := t.line, warn := { s.warn with gens := t.warn.gens } })

/-- An event offered to a ring that is not frozen is recorded as the newest entry in mode ALL, and in mode MATCH when
its kind is in the kind set and its source passes value and mask (a source NONE only with mask 0); at 48 entries the
oldest leaves. A recorded kind of the freeze set freezes the ring with that reason and raises TRACE_FROZEN. In mode
OFF, or on a frozen ring, nothing is recorded. The offer changes nothing else. Served with eight arguments, mode 0..2
and source value and mask below 32, ARM TRACE replaces all five settings; with the empty option it also removes every
entry, clears the frozen flag and the reason, and without it keeps all three. Otherwise it is answered REJECTED.
Nothing else changes but the number of incoming bytes (log 44). That bit 15 of a set is dropped is the model's choice
(log 34). -/
def Obligations.TraceRecordsFreezesAndIsArmed : Prop :=
  (∀ (s : State) (k : TraceKind) (src : Option Station) (fr : Option FrameKind) (d : Detail) (recorded : Bool),
    (recorded = true ↔ s.trace.frozen = false ∧ (s.trace.settings.mode = .all
      ∨ s.trace.settings.mode = .matching ∧ s.trace.settings.kindSet.getLsbD k.bit = true
        ∧ ((∃ i, src = some i
              ∧ (BitVec.ofNat 5 i.val ^^^ s.trace.settings.srcValue) &&& s.trace.settings.srcMask = 0)
            ∨ src = none ∧ s.trace.settings.srcMask = 0))) →
    (recorded = false → offer k src fr d s = s)
    ∧ (recorded = true → ∃ t, offer k src fr d s = t
      ∧ t.trace.ring.getLast? = some ⟨s.time.localTick, s.line.cycle, s.line.opp, k, src, fr, d⟩
      ∧ (s.trace.ring.length < 48 → t.trace.ring.dropLast = s.trace.ring)
      ∧ (s.trace.ring.length = 48 → t.trace.ring.dropLast = s.trace.ring.drop 1)
      ∧ t.trace.settings = s.trace.settings
      ∧ (s.trace.settings.freezeSet.getLsbD k.bit = true →
          t.trace.frozen = true ∧ t.trace.reason = some k ∧ t.panel = { s.panel with events := s.panel.events ||| 0x80 })
      ∧ (s.trace.settings.freezeSet.getLsbD k.bit = false →
          t.trace.frozen = false ∧ t.trace.reason = s.trace.reason ∧ t.panel = s.panel)
      ∧ t = { s with trace := t.trace, panel := t.panel }))
  ∧ (∀ (s : State) (m a b v k c d e : Byte), s.resetHeld = false → s.serves = true →
    (m.toNat ≤ 2 → v.toNat < 32 → k.toNat < 32 →
      exec (.armTrace [m, a, b, v, k, c, d, e]) s
        = .next { s with
            trace := {
              ring := if e.getLsbD 0 then [] else s.trace.ring
              frozen := if e.getLsbD 0 then false else s.trace.frozen
              reason := if e.getLsbD 0 then none else s.trace.reason
              settings := {
                mode := if m = 0 then .off else if m = 1 then .all else .matching
                kindSet := (a ++ b) &&& 0x7FFF
                srcValue := v.setWidth 5
                srcMask := k.setWidth 5
                freezeSet := (c ++ d) &&& 0x7FFF } }
            panel := { s.panel with incoming := some 10, response := [1] } })
    ∧ ((2 < m.toNat ∨ 32 ≤ v.toNat ∨ 32 ≤ k.toNat) →
      exec (.armTrace [m, a, b, v, k, c, d, e]) s
        = .next { s with panel := { s.panel with incoming := some 10, response := [2] } }))

/-- For a MARK, a PRESENCE, a SIGHTING and a TRANSFER with every field in its range, the frame that a station of the
yard sends, received undisturbed by another, passes every receive check and is read back with the same source, FINAL
flag and contents. -/
def Obligations.FramesReadBackAsComposed : Prop :=
  ∀ (n : Nat) (src own : Station) (final : Bool), n ≤ 32 → src.val < n → src ≠ own →
    (∀ m : MarkBody, judge n own (cleanChars (frameBytes n src final (.mark m))) = .taken src final (.mark m))
    ∧ (∀ p : Presence, p.channels.length = 4 → (p.fused.isSome = p.digest.isSome) → (∀ v, p.wind = some v → v ≤ 1022) →
      judge n own (cleanChars (frameBytes n src final (.presence p))) = .taken src final (.presence p))
    ∧ (∀ g : Sighting, g.source = src → (∀ v, g.peak = some v → v ≤ 1022) →
      (g.kind = .onset ∧ g.onsetRef = none ∧ g.cut = false ∨ g.kind = .subside ∧ g.onsetRef.isSome = true) →
      judge n own (cleanChars (frameBytes n src final (.sighting g))) = .taken src final (.sighting g))
    ∧ (∀ f : TransferBody, f.nextId ≠ 0 →
      (f.slot = none ∧ f.count = 0
        ∨ ∃ i r, f.slot = some (i, r) ∧ 1 ≤ f.count ∧ f.count ≤ 8 ∧ r.state ≠ .free ∧ r.wellFormed n 0 = true
          ∧ r.dustI = none ∧ r.peakI = none ∧ r.arrivals = []) →
      judge n own (cleanChars (frameBytes n src final (.transfer f))) = .taken src final (.transfer f))

/-- In every state that meets the bounds, every step answers a state that meets them: eight slots, at most 32
sightings of the OPEN label, a window of 16, at most 8 outbound sightings, one roster entry for each station, at most
4 digest pairs, at most 4 zones with 4 generators, at most 48 trace entries, run counts within theirs, and a
configuration in force exactly from LISTENING onward, which passed every test of its load. -/
def Obligations.EveryStepKeepsTheBounds : Prop :=
  ∀ s t : State, Bounded s → step s = .next t → Bounded t

/-- In every state that keeps it, every step keeps it: nothing is transmitted in LOADING, CONFIG FAULT, MUTE and LULL;
a frame other than a MARK, and a plan, only in ACTIVE in the own opportunity; and MUTE has no open timer. -/
def Obligations.EveryStepKeepsTheLineDiscipline : Prop :=
  ∀ s t : State, LineDiscipline s → step s = .next t → LineDiscipline t

/-- The state after a cold restart meets the bounds of the buffers and the rule of who may transmit, and does not meet
every condition of LULL. -/
def Obligations.InvariantsHoldAtReset : Prop :=
  Bounded State.reset ∧ LineDiscipline State.reset ∧ State.reset.lullReady = false
end

