-- ==== Sys2Proof/Laws/State.lean ====
section
/-! SUPPORT. What the shared operations leave unchanged: one lemma for each field that an operation does not write, and
one for each field that a plain update writes. -/

namespace Sys2Proof.Machine

variable (s : State)

@[simp] theorem raiseIf_mode (b : Bool) (e : StatusEvent) : (raiseIf b e s).mode = s.mode := rfl
@[simp] theorem raiseIf_resetHeld (b : Bool) (e : StatusEvent) : (raiseIf b e s).resetHeld = s.resetHeld := rfl
@[simp] theorem raiseIf_straps (b : Bool) (e : StatusEvent) : (raiseIf b e s).straps = s.straps := rfl
@[simp] theorem raiseIf_loader (b : Bool) (e : StatusEvent) : (raiseIf b e s).loader = s.loader := rfl
@[simp] theorem raiseIf_table (b : Bool) (e : StatusEvent) : (raiseIf b e s).table = s.table := rfl
@[simp] theorem raiseIf_fusion (b : Bool) (e : StatusEvent) : (raiseIf b e s).fusion = s.fusion := rfl
@[simp] theorem raiseIf_exc (b : Bool) (e : StatusEvent) : (raiseIf b e s).exc = s.exc := rfl
@[simp] theorem raiseIf_sensor (b : Bool) (e : StatusEvent) : (raiseIf b e s).sensor = s.sensor := rfl
@[simp] theorem raiseIf_detector (b : Bool) (e : StatusEvent) : (raiseIf b e s).detector = s.detector := rfl
@[simp] theorem raiseIf_outbound (b : Bool) (e : StatusEvent) : (raiseIf b e s).outbound = s.outbound := rfl
@[simp] theorem raiseIf_line (b : Bool) (e : StatusEvent) : (raiseIf b e s).line = s.line := rfl
@[simp] theorem raiseIf_roster (b : Bool) (e : StatusEvent) : (raiseIf b e s).roster = s.roster := rfl
@[simp] theorem raiseIf_agree (b : Bool) (e : StatusEvent) : (raiseIf b e s).agree = s.agree := rfl
@[simp] theorem raiseIf_time (b : Bool) (e : StatusEvent) : (raiseIf b e s).time = s.time := rfl
@[simp] theorem raiseIf_warn (b : Bool) (e : StatusEvent) : (raiseIf b e s).warn = s.warn := rfl
@[simp] theorem raiseIf_trace (b : Bool) (e : StatusEvent) : (raiseIf b e s).trace = s.trace := rfl
@[simp] theorem raiseIf_counters (b : Bool) (e : StatusEvent) : (raiseIf b e s).counters = s.counters := rfl
@[simp] theorem raiseIf_freeCount (b : Bool) (e : StatusEvent) : (raiseIf b e s).freeCount = s.freeCount := rfl
@[simp] theorem raiseIf_pending (b : Bool) (e : StatusEvent) : (raiseIf b e s).pending = s.pending := rfl

@[simp] theorem raiseEvent_mode (e : StatusEvent) : (raiseEvent e s).mode = s.mode := rfl
@[simp] theorem raiseEvent_resetHeld (e : StatusEvent) : (raiseEvent e s).resetHeld = s.resetHeld := rfl
@[simp] theorem raiseEvent_straps (e : StatusEvent) : (raiseEvent e s).straps = s.straps := rfl
@[simp] theorem raiseEvent_loader (e : StatusEvent) : (raiseEvent e s).loader = s.loader := rfl
@[simp] theorem raiseEvent_table (e : StatusEvent) : (raiseEvent e s).table = s.table := rfl
@[simp] theorem raiseEvent_fusion (e : StatusEvent) : (raiseEvent e s).fusion = s.fusion := rfl
@[simp] theorem raiseEvent_exc (e : StatusEvent) : (raiseEvent e s).exc = s.exc := rfl
@[simp] theorem raiseEvent_sensor (e : StatusEvent) : (raiseEvent e s).sensor = s.sensor := rfl
@[simp] theorem raiseEvent_detector (e : StatusEvent) : (raiseEvent e s).detector = s.detector := rfl
@[simp] theorem raiseEvent_outbound (e : StatusEvent) : (raiseEvent e s).outbound = s.outbound := rfl
@[simp] theorem raiseEvent_line (e : StatusEvent) : (raiseEvent e s).line = s.line := rfl
@[simp] theorem raiseEvent_roster (e : StatusEvent) : (raiseEvent e s).roster = s.roster := rfl
@[simp] theorem raiseEvent_agree (e : StatusEvent) : (raiseEvent e s).agree = s.agree := rfl
@[simp] theorem raiseEvent_time (e : StatusEvent) : (raiseEvent e s).time = s.time := rfl
@[simp] theorem raiseEvent_warn (e : StatusEvent) : (raiseEvent e s).warn = s.warn := rfl
@[simp] theorem raiseEvent_trace (e : StatusEvent) : (raiseEvent e s).trace = s.trace := rfl
@[simp] theorem raiseEvent_counters (e : StatusEvent) : (raiseEvent e s).counters = s.counters := rfl
@[simp] theorem raiseEvent_freeCount (e : StatusEvent) : (raiseEvent e s).freeCount = s.freeCount := rfl
@[simp] theorem raiseEvent_pending (e : StatusEvent) : (raiseEvent e s).pending = s.pending := rfl

@[simp] theorem offer_mode (k : TraceKind) (src : Option Station) (fr : Option FrameKind) (d : Detail) : (offer k src fr d s).mode = s.mode := rfl
@[simp] theorem offer_resetHeld (k : TraceKind) (src : Option Station) (fr : Option FrameKind) (d : Detail) : (offer k src fr d s).resetHeld = s.resetHeld := rfl
@[simp] theorem offer_straps (k : TraceKind) (src : Option Station) (fr : Option FrameKind) (d : Detail) : (offer k src fr d s).straps = s.straps := rfl
@[simp] theorem offer_loader (k : TraceKind) (src : Option Station) (fr : Option FrameKind) (d : Detail) : (offer k src fr d s).loader = s.loader := rfl
@[simp] theorem offer_table (k : TraceKind) (src : Option Station) (fr : Option FrameKind) (d : Detail) : (offer k src fr d s).table = s.table := rfl
@[simp] theorem offer_fusion (k : TraceKind) (src : Option Station) (fr : Option FrameKind) (d : Detail) : (offer k src fr d s).fusion = s.fusion := rfl
@[simp] theorem offer_exc (k : TraceKind) (src : Option Station) (fr : Option FrameKind) (d : Detail) : (offer k src fr d s).exc = s.exc := rfl
@[simp] theorem offer_sensor (k : TraceKind) (src : Option Station) (fr : Option FrameKind) (d : Detail) : (offer k src fr d s).sensor = s.sensor := rfl
@[simp] theorem offer_detector (k : TraceKind) (src : Option Station) (fr : Option FrameKind) (d : Detail) : (offer k src fr d s).detector = s.detector := rfl
@[simp] theorem offer_outbound (k : TraceKind) (src : Option Station) (fr : Option FrameKind) (d : Detail) : (offer k src fr d s).outbound = s.outbound := rfl
@[simp] theorem offer_line (k : TraceKind) (src : Option Station) (fr : Option FrameKind) (d : Detail) : (offer k src fr d s).line = s.line := rfl
@[simp] theorem offer_roster (k : TraceKind) (src : Option Station) (fr : Option FrameKind) (d : Detail) : (offer k src fr d s).roster = s.roster := rfl
@[simp] theorem offer_agree (k : TraceKind) (src : Option Station) (fr : Option FrameKind) (d : Detail) : (offer k src fr d s).agree = s.agree := rfl
@[simp] theorem offer_time (k : TraceKind) (src : Option Station) (fr : Option FrameKind) (d : Detail) : (offer k src fr d s).time = s.time := rfl
@[simp] theorem offer_warn (k : TraceKind) (src : Option Station) (fr : Option FrameKind) (d : Detail) : (offer k src fr d s).warn = s.warn := rfl
@[simp] theorem offer_counters (k : TraceKind) (src : Option Station) (fr : Option FrameKind) (d : Detail) : (offer k src fr d s).counters = s.counters := rfl
@[simp] theorem offer_freeCount (k : TraceKind) (src : Option Station) (fr : Option FrameKind) (d : Detail) : (offer k src fr d s).freeCount = s.freeCount := rfl
@[simp] theorem offer_pending (k : TraceKind) (src : Option Station) (fr : Option FrameKind) (d : Detail) : (offer k src fr d s).pending = s.pending := rfl

@[simp] theorem restartBlocks_mode (c : Option Loaded) : (restartBlocks c s).mode = s.mode := rfl
@[simp] theorem restartBlocks_resetHeld (c : Option Loaded) : (restartBlocks c s).resetHeld = s.resetHeld := rfl
@[simp] theorem restartBlocks_straps (c : Option Loaded) : (restartBlocks c s).straps = s.straps := rfl
@[simp] theorem restartBlocks_loader (c : Option Loaded) : (restartBlocks c s).loader = s.loader := rfl
@[simp] theorem restartBlocks_time (c : Option Loaded) : (restartBlocks c s).time = s.time := rfl
@[simp] theorem restartBlocks_trace (c : Option Loaded) : (restartBlocks c s).trace = s.trace := rfl
@[simp] theorem restartBlocks_counters (c : Option Loaded) : (restartBlocks c s).counters = s.counters := rfl
@[simp] theorem restartBlocks_panel (c : Option Loaded) : (restartBlocks c s).panel = s.panel := rfl
@[simp] theorem restartBlocks_freeCount (c : Option Loaded) : (restartBlocks c s).freeCount = s.freeCount := rfl
@[simp] theorem restartBlocks_pending (c : Option Loaded) : (restartBlocks c s).pending = s.pending := rfl

@[simp] theorem withZones_mode (zones : List Zone) : (withZones zones s).mode = s.mode := rfl
@[simp] theorem withZones_resetHeld (zones : List Zone) : (withZones zones s).resetHeld = s.resetHeld := rfl
@[simp] theorem withZones_straps (zones : List Zone) : (withZones zones s).straps = s.straps := rfl
@[simp] theorem withZones_loader (zones : List Zone) : (withZones zones s).loader = s.loader := rfl
@[simp] theorem withZones_table (zones : List Zone) : (withZones zones s).table = s.table := rfl
@[simp] theorem withZones_fusion (zones : List Zone) : (withZones zones s).fusion = s.fusion := rfl
@[simp] theorem withZones_exc (zones : List Zone) : (withZones zones s).exc = s.exc := rfl
@[simp] theorem withZones_sensor (zones : List Zone) : (withZones zones s).sensor = s.sensor := rfl
@[simp] theorem withZones_detector (zones : List Zone) : (withZones zones s).detector = s.detector := rfl
@[simp] theorem withZones_outbound (zones : List Zone) : (withZones zones s).outbound = s.outbound := rfl
@[simp] theorem withZones_line (zones : List Zone) : (withZones zones s).line = s.line := rfl
@[simp] theorem withZones_roster (zones : List Zone) : (withZones zones s).roster = s.roster := rfl
@[simp] theorem withZones_agree (zones : List Zone) : (withZones zones s).agree = s.agree := rfl
@[simp] theorem withZones_time (zones : List Zone) : (withZones zones s).time = s.time := rfl
@[simp] theorem withZones_trace (zones : List Zone) : (withZones zones s).trace = s.trace := rfl
@[simp] theorem withZones_counters (zones : List Zone) : (withZones zones s).counters = s.counters := rfl
@[simp] theorem withZones_panel (zones : List Zone) : (withZones zones s).panel = s.panel := rfl
@[simp] theorem withZones_freeCount (zones : List Zone) : (withZones zones s).freeCount = s.freeCount := rfl
@[simp] theorem withZones_pending (zones : List Zone) : (withZones zones s).pending = s.pending := rfl

@[simp] theorem evaluate_mode : (evaluate s).mode = s.mode := rfl
@[simp] theorem evaluate_resetHeld : (evaluate s).resetHeld = s.resetHeld := rfl
@[simp] theorem evaluate_straps : (evaluate s).straps = s.straps := rfl
@[simp] theorem evaluate_loader : (evaluate s).loader = s.loader := rfl
@[simp] theorem evaluate_table : (evaluate s).table = s.table := rfl
@[simp] theorem evaluate_fusion : (evaluate s).fusion = s.fusion := rfl
@[simp] theorem evaluate_exc : (evaluate s).exc = s.exc := rfl
@[simp] theorem evaluate_sensor : (evaluate s).sensor = s.sensor := rfl
@[simp] theorem evaluate_detector : (evaluate s).detector = s.detector := rfl
@[simp] theorem evaluate_outbound : (evaluate s).outbound = s.outbound := rfl
@[simp] theorem evaluate_line : (evaluate s).line = s.line := rfl
@[simp] theorem evaluate_roster : (evaluate s).roster = s.roster := rfl
@[simp] theorem evaluate_agree : (evaluate s).agree = s.agree := rfl
@[simp] theorem evaluate_time : (evaluate s).time = s.time := rfl
@[simp] theorem evaluate_trace : (evaluate s).trace = s.trace := rfl
@[simp] theorem evaluate_counters : (evaluate s).counters = s.counters := rfl
@[simp] theorem evaluate_freeCount : (evaluate s).freeCount = s.freeCount := rfl
@[simp] theorem evaluate_pending : (evaluate s).pending = s.pending := rfl

@[simp] theorem evaluateIf_mode (b : Bool) : (evaluateIf b s).mode = s.mode := by cases b <;> rfl
@[simp] theorem evaluateIf_resetHeld (b : Bool) : (evaluateIf b s).resetHeld = s.resetHeld := by cases b <;> rfl
@[simp] theorem evaluateIf_straps (b : Bool) : (evaluateIf b s).straps = s.straps := by cases b <;> rfl
@[simp] theorem evaluateIf_loader (b : Bool) : (evaluateIf b s).loader = s.loader := by cases b <;> rfl
@[simp] theorem evaluateIf_table (b : Bool) : (evaluateIf b s).table = s.table := by cases b <;> rfl
@[simp] theorem evaluateIf_fusion (b : Bool) : (evaluateIf b s).fusion = s.fusion := by cases b <;> rfl
@[simp] theorem evaluateIf_exc (b : Bool) : (evaluateIf b s).exc = s.exc := by cases b <;> rfl
@[simp] theorem evaluateIf_sensor (b : Bool) : (evaluateIf b s).sensor = s.sensor := by cases b <;> rfl
@[simp] theorem evaluateIf_detector (b : Bool) : (evaluateIf b s).detector = s.detector := by cases b <;> rfl
@[simp] theorem evaluateIf_outbound (b : Bool) : (evaluateIf b s).outbound = s.outbound := by cases b <;> rfl
@[simp] theorem evaluateIf_line (b : Bool) : (evaluateIf b s).line = s.line := by cases b <;> rfl
@[simp] theorem evaluateIf_roster (b : Bool) : (evaluateIf b s).roster = s.roster := by cases b <;> rfl
@[simp] theorem evaluateIf_agree (b : Bool) : (evaluateIf b s).agree = s.agree := by cases b <;> rfl
@[simp] theorem evaluateIf_time (b : Bool) : (evaluateIf b s).time = s.time := by cases b <;> rfl
@[simp] theorem evaluateIf_trace (b : Bool) : (evaluateIf b s).trace = s.trace := by cases b <;> rfl
@[simp] theorem evaluateIf_counters (b : Bool) : (evaluateIf b s).counters = s.counters := by cases b <;> rfl
@[simp] theorem evaluateIf_freeCount (b : Bool) : (evaluateIf b s).freeCount = s.freeCount := by cases b <;> rfl
@[simp] theorem evaluateIf_pending (b : Bool) : (evaluateIf b s).pending = s.pending := by cases b <;> rfl

@[simp] theorem evaluateAtExpiry_mode (k : Nat) : (evaluateAtExpiry k s).mode = s.mode := rfl
@[simp] theorem evaluateAtExpiry_resetHeld (k : Nat) : (evaluateAtExpiry k s).resetHeld = s.resetHeld := rfl
@[simp] theorem evaluateAtExpiry_straps (k : Nat) : (evaluateAtExpiry k s).straps = s.straps := rfl
@[simp] theorem evaluateAtExpiry_loader (k : Nat) : (evaluateAtExpiry k s).loader = s.loader := rfl
@[simp] theorem evaluateAtExpiry_table (k : Nat) : (evaluateAtExpiry k s).table = s.table := rfl
@[simp] theorem evaluateAtExpiry_fusion (k : Nat) : (evaluateAtExpiry k s).fusion = s.fusion := rfl
@[simp] theorem evaluateAtExpiry_exc (k : Nat) : (evaluateAtExpiry k s).exc = s.exc := rfl
@[simp] theorem evaluateAtExpiry_sensor (k : Nat) : (evaluateAtExpiry k s).sensor = s.sensor := rfl
@[simp] theorem evaluateAtExpiry_detector (k : Nat) : (evaluateAtExpiry k s).detector = s.detector := rfl
@[simp] theorem evaluateAtExpiry_outbound (k : Nat) : (evaluateAtExpiry k s).outbound = s.outbound := rfl
@[simp] theorem evaluateAtExpiry_line (k : Nat) : (evaluateAtExpiry k s).line = s.line := rfl
@[simp] theorem evaluateAtExpiry_roster (k : Nat) : (evaluateAtExpiry k s).roster = s.roster := rfl
@[simp] theorem evaluateAtExpiry_agree (k : Nat) : (evaluateAtExpiry k s).agree = s.agree := rfl
@[simp] theorem evaluateAtExpiry_time (k : Nat) : (evaluateAtExpiry k s).time = s.time := rfl
@[simp] theorem evaluateAtExpiry_trace (k : Nat) : (evaluateAtExpiry k s).trace = s.trace := rfl
@[simp] theorem evaluateAtExpiry_counters (k : Nat) : (evaluateAtExpiry k s).counters = s.counters := rfl
@[simp] theorem evaluateAtExpiry_freeCount (k : Nat) : (evaluateAtExpiry k s).freeCount = s.freeCount := rfl
@[simp] theorem evaluateAtExpiry_pending (k : Nat) : (evaluateAtExpiry k s).pending = s.pending := rfl

@[simp] theorem takeClose_mode (lost : Bool) : (takeClose lost s).mode = s.mode := rfl
@[simp] theorem takeClose_resetHeld (lost : Bool) : (takeClose lost s).resetHeld = s.resetHeld := rfl
@[simp] theorem takeClose_straps (lost : Bool) : (takeClose lost s).straps = s.straps := rfl
@[simp] theorem takeClose_loader (lost : Bool) : (takeClose lost s).loader = s.loader := rfl
@[simp] theorem takeClose_table (lost : Bool) : (takeClose lost s).table = s.table := rfl
@[simp] theorem takeClose_fusion (lost : Bool) : (takeClose lost s).fusion = s.fusion := rfl
@[simp] theorem takeClose_exc (lost : Bool) : (takeClose lost s).exc = s.exc := rfl
@[simp] theorem takeClose_sensor (lost : Bool) : (takeClose lost s).sensor = s.sensor := rfl
@[simp] theorem takeClose_detector (lost : Bool) : (takeClose lost s).detector = s.detector := rfl
@[simp] theorem takeClose_outbound (lost : Bool) : (takeClose lost s).outbound = s.outbound := rfl
@[simp] theorem takeClose_line (lost : Bool) : (takeClose lost s).line = s.line := rfl
@[simp] theorem takeClose_roster (lost : Bool) : (takeClose lost s).roster = s.roster := rfl
@[simp] theorem takeClose_agree (lost : Bool) : (takeClose lost s).agree = s.agree := rfl
@[simp] theorem takeClose_time (lost : Bool) : (takeClose lost s).time = s.time := rfl
@[simp] theorem takeClose_trace (lost : Bool) : (takeClose lost s).trace = s.trace := rfl
@[simp] theorem takeClose_counters (lost : Bool) : (takeClose lost s).counters = s.counters := rfl
@[simp] theorem takeClose_panel (lost : Bool) : (takeClose lost s).panel = s.panel := rfl
@[simp] theorem takeClose_freeCount (lost : Bool) : (takeClose lost s).freeCount = s.freeCount := rfl
@[simp] theorem takeClose_pending (lost : Bool) : (takeClose lost s).pending = s.pending := rfl

@[simp] theorem takeCheck_mode (after : Bool) (st : AgreeState) (run : Byte) : (takeCheck after st run s).mode = s.mode := rfl
@[simp] theorem takeCheck_resetHeld (after : Bool) (st : AgreeState) (run : Byte) : (takeCheck after st run s).resetHeld = s.resetHeld := rfl
@[simp] theorem takeCheck_straps (after : Bool) (st : AgreeState) (run : Byte) : (takeCheck after st run s).straps = s.straps := rfl
@[simp] theorem takeCheck_loader (after : Bool) (st : AgreeState) (run : Byte) : (takeCheck after st run s).loader = s.loader := rfl
@[simp] theorem takeCheck_table (after : Bool) (st : AgreeState) (run : Byte) : (takeCheck after st run s).table = s.table := rfl
@[simp] theorem takeCheck_fusion (after : Bool) (st : AgreeState) (run : Byte) : (takeCheck after st run s).fusion = s.fusion := rfl
@[simp] theorem takeCheck_exc (after : Bool) (st : AgreeState) (run : Byte) : (takeCheck after st run s).exc = s.exc := rfl
@[simp] theorem takeCheck_sensor (after : Bool) (st : AgreeState) (run : Byte) : (takeCheck after st run s).sensor = s.sensor := rfl
@[simp] theorem takeCheck_detector (after : Bool) (st : AgreeState) (run : Byte) : (takeCheck after st run s).detector = s.detector := rfl
@[simp] theorem takeCheck_outbound (after : Bool) (st : AgreeState) (run : Byte) : (takeCheck after st run s).outbound = s.outbound := rfl
@[simp] theorem takeCheck_line (after : Bool) (st : AgreeState) (run : Byte) : (takeCheck after st run s).line = s.line := rfl
@[simp] theorem takeCheck_roster (after : Bool) (st : AgreeState) (run : Byte) : (takeCheck after st run s).roster = s.roster := rfl
@[simp] theorem takeCheck_agree (after : Bool) (st : AgreeState) (run : Byte) : (takeCheck after st run s).agree = s.agree := rfl
@[simp] theorem takeCheck_time (after : Bool) (st : AgreeState) (run : Byte) : (takeCheck after st run s).time = s.time := rfl
@[simp] theorem takeCheck_trace (after : Bool) (st : AgreeState) (run : Byte) : (takeCheck after st run s).trace = s.trace := rfl
@[simp] theorem takeCheck_counters (after : Bool) (st : AgreeState) (run : Byte) : (takeCheck after st run s).counters = s.counters := rfl
@[simp] theorem takeCheck_panel (after : Bool) (st : AgreeState) (run : Byte) : (takeCheck after st run s).panel = s.panel := rfl
@[simp] theorem takeCheck_freeCount (after : Bool) (st : AgreeState) (run : Byte) : (takeCheck after st run s).freeCount = s.freeCount := rfl
@[simp] theorem takeCheck_pending (after : Bool) (st : AgreeState) (run : Byte) : (takeCheck after st run s).pending = s.pending := rfl

@[simp] theorem adopt_mode (t : Tick) : (adopt t s).mode = s.mode := rfl
@[simp] theorem adopt_resetHeld (t : Tick) : (adopt t s).resetHeld = s.resetHeld := rfl
@[simp] theorem adopt_straps (t : Tick) : (adopt t s).straps = s.straps := rfl
@[simp] theorem adopt_loader (t : Tick) : (adopt t s).loader = s.loader := rfl
@[simp] theorem adopt_table (t : Tick) : (adopt t s).table = s.table := rfl
@[simp] theorem adopt_fusion (t : Tick) : (adopt t s).fusion = s.fusion := rfl
@[simp] theorem adopt_exc (t : Tick) : (adopt t s).exc = s.exc := rfl
@[simp] theorem adopt_sensor (t : Tick) : (adopt t s).sensor = s.sensor := rfl
@[simp] theorem adopt_detector (t : Tick) : (adopt t s).detector = s.detector := rfl
@[simp] theorem adopt_outbound (t : Tick) : (adopt t s).outbound = s.outbound := rfl
@[simp] theorem adopt_line (t : Tick) : (adopt t s).line = s.line := rfl
@[simp] theorem adopt_roster (t : Tick) : (adopt t s).roster = s.roster := rfl
@[simp] theorem adopt_agree (t : Tick) : (adopt t s).agree = s.agree := rfl
@[simp] theorem adopt_warn (t : Tick) : (adopt t s).warn = s.warn := rfl
@[simp] theorem adopt_trace (t : Tick) : (adopt t s).trace = s.trace := rfl
@[simp] theorem adopt_panel (t : Tick) : (adopt t s).panel = s.panel := rfl
@[simp] theorem adopt_freeCount (t : Tick) : (adopt t s).freeCount = s.freeCount := rfl
@[simp] theorem adopt_pending (t : Tick) : (adopt t s).pending = s.pending := rfl

@[simp] theorem enterLull_resetHeld (b : Nat) : (enterLull b s).resetHeld = s.resetHeld := rfl
@[simp] theorem enterLull_straps (b : Nat) : (enterLull b s).straps = s.straps := rfl
@[simp] theorem enterLull_loader (b : Nat) : (enterLull b s).loader = s.loader := rfl
@[simp] theorem enterLull_table (b : Nat) : (enterLull b s).table = s.table := rfl
@[simp] theorem enterLull_fusion (b : Nat) : (enterLull b s).fusion = s.fusion := rfl
@[simp] theorem enterLull_exc (b : Nat) : (enterLull b s).exc = s.exc := rfl
@[simp] theorem enterLull_sensor (b : Nat) : (enterLull b s).sensor = s.sensor := rfl
@[simp] theorem enterLull_detector (b : Nat) : (enterLull b s).detector = s.detector := rfl
@[simp] theorem enterLull_outbound (b : Nat) : (enterLull b s).outbound = s.outbound := rfl
@[simp] theorem enterLull_roster (b : Nat) : (enterLull b s).roster = s.roster := rfl
@[simp] theorem enterLull_agree (b : Nat) : (enterLull b s).agree = s.agree := rfl
@[simp] theorem enterLull_trace (b : Nat) : (enterLull b s).trace = s.trace := rfl
@[simp] theorem enterLull_counters (b : Nat) : (enterLull b s).counters = s.counters := rfl
@[simp] theorem enterLull_panel (b : Nat) : (enterLull b s).panel = s.panel := rfl
@[simp] theorem enterLull_pending (b : Nat) : (enterLull b s).pending = s.pending := rfl

@[simp] theorem finishAt_resetHeld (b : Nat) : (finishAt b s).resetHeld = s.resetHeld := by unfold finishAt; split <;> rfl
@[simp] theorem finishAt_straps (b : Nat) : (finishAt b s).straps = s.straps := by unfold finishAt; split <;> rfl
@[simp] theorem finishAt_loader (b : Nat) : (finishAt b s).loader = s.loader := by unfold finishAt; split <;> rfl
@[simp] theorem finishAt_table (b : Nat) : (finishAt b s).table = s.table := by unfold finishAt; split <;> rfl
@[simp] theorem finishAt_fusion (b : Nat) : (finishAt b s).fusion = s.fusion := by unfold finishAt; split <;> rfl
@[simp] theorem finishAt_exc (b : Nat) : (finishAt b s).exc = s.exc := by unfold finishAt; split <;> rfl
@[simp] theorem finishAt_sensor (b : Nat) : (finishAt b s).sensor = s.sensor := by unfold finishAt; split <;> rfl
@[simp] theorem finishAt_detector (b : Nat) : (finishAt b s).detector = s.detector := by unfold finishAt; split <;> rfl
@[simp] theorem finishAt_outbound (b : Nat) : (finishAt b s).outbound = s.outbound := by unfold finishAt; split <;> rfl
@[simp] theorem finishAt_roster (b : Nat) : (finishAt b s).roster = s.roster := by unfold finishAt; split <;> rfl
@[simp] theorem finishAt_agree (b : Nat) : (finishAt b s).agree = s.agree := by unfold finishAt; split <;> rfl
@[simp] theorem finishAt_trace (b : Nat) : (finishAt b s).trace = s.trace := by unfold finishAt; split <;> rfl
@[simp] theorem finishAt_counters (b : Nat) : (finishAt b s).counters = s.counters := by unfold finishAt; split <;> rfl
@[simp] theorem finishAt_panel (b : Nat) : (finishAt b s).panel = s.panel := by unfold finishAt; split <;> rfl
@[simp] theorem finishAt_pending (b : Nat) : (finishAt b s).pending = s.pending := by unfold finishAt; split <;> rfl

@[simp] theorem finish_resetHeld : (finish s).resetHeld = s.resetHeld := by simp [finish]
@[simp] theorem finish_straps : (finish s).straps = s.straps := by simp [finish]
@[simp] theorem finish_loader : (finish s).loader = s.loader := by simp [finish]
@[simp] theorem finish_table : (finish s).table = s.table := by simp [finish]
@[simp] theorem finish_fusion : (finish s).fusion = s.fusion := by simp [finish]
@[simp] theorem finish_exc : (finish s).exc = s.exc := by simp [finish]
@[simp] theorem finish_sensor : (finish s).sensor = s.sensor := by simp [finish]
@[simp] theorem finish_detector : (finish s).detector = s.detector := by simp [finish]
@[simp] theorem finish_outbound : (finish s).outbound = s.outbound := by simp [finish]
@[simp] theorem finish_roster : (finish s).roster = s.roster := by simp [finish]
@[simp] theorem finish_agree : (finish s).agree = s.agree := by simp [finish]
@[simp] theorem finish_trace : (finish s).trace = s.trace := by simp [finish]
@[simp] theorem finish_counters : (finish s).counters = s.counters := by simp [finish]
@[simp] theorem finish_panel : (finish s).panel = s.panel := by simp [finish]
@[simp] theorem finish_pending : (finish s).pending = s.pending := by simp [finish]

@[simp] theorem finishAtTick_resetHeld : (finishAtTick s).resetHeld = s.resetHeld := by simp [finishAtTick]
@[simp] theorem finishAtTick_straps : (finishAtTick s).straps = s.straps := by simp [finishAtTick]
@[simp] theorem finishAtTick_loader : (finishAtTick s).loader = s.loader := by simp [finishAtTick]
@[simp] theorem finishAtTick_table : (finishAtTick s).table = s.table := by simp [finishAtTick]
@[simp] theorem finishAtTick_fusion : (finishAtTick s).fusion = s.fusion := by simp [finishAtTick]
@[simp] theorem finishAtTick_exc : (finishAtTick s).exc = s.exc := by simp [finishAtTick]
@[simp] theorem finishAtTick_sensor : (finishAtTick s).sensor = s.sensor := by simp [finishAtTick]
@[simp] theorem finishAtTick_detector : (finishAtTick s).detector = s.detector := by simp [finishAtTick]
@[simp] theorem finishAtTick_outbound : (finishAtTick s).outbound = s.outbound := by simp [finishAtTick]
@[simp] theorem finishAtTick_roster : (finishAtTick s).roster = s.roster := by simp [finishAtTick]
@[simp] theorem finishAtTick_agree : (finishAtTick s).agree = s.agree := by simp [finishAtTick]
@[simp] theorem finishAtTick_trace : (finishAtTick s).trace = s.trace := by simp [finishAtTick]
@[simp] theorem finishAtTick_counters : (finishAtTick s).counters = s.counters := by simp [finishAtTick]
@[simp] theorem finishAtTick_panel : (finishAtTick s).panel = s.panel := by simp [finishAtTick]
@[simp] theorem finishAtTick_pending : (finishAtTick s).pending = s.pending := by simp [finishAtTick]

@[simp] theorem wakeAfter_resetHeld (d : Nat) (atOpen : Bool) : (wakeAfter d atOpen s).resetHeld = s.resetHeld := rfl
@[simp] theorem wakeAfter_straps (d : Nat) (atOpen : Bool) : (wakeAfter d atOpen s).straps = s.straps := rfl
@[simp] theorem wakeAfter_loader (d : Nat) (atOpen : Bool) : (wakeAfter d atOpen s).loader = s.loader := rfl
@[simp] theorem wakeAfter_table (d : Nat) (atOpen : Bool) : (wakeAfter d atOpen s).table = s.table := rfl
@[simp] theorem wakeAfter_fusion (d : Nat) (atOpen : Bool) : (wakeAfter d atOpen s).fusion = s.fusion := rfl
@[simp] theorem wakeAfter_exc (d : Nat) (atOpen : Bool) : (wakeAfter d atOpen s).exc = s.exc := rfl
@[simp] theorem wakeAfter_sensor (d : Nat) (atOpen : Bool) : (wakeAfter d atOpen s).sensor = s.sensor := rfl
@[simp] theorem wakeAfter_detector (d : Nat) (atOpen : Bool) : (wakeAfter d atOpen s).detector = s.detector := rfl
@[simp] theorem wakeAfter_outbound (d : Nat) (atOpen : Bool) : (wakeAfter d atOpen s).outbound = s.outbound := rfl
@[simp] theorem wakeAfter_roster (d : Nat) (atOpen : Bool) : (wakeAfter d atOpen s).roster = s.roster := rfl
@[simp] theorem wakeAfter_agree (d : Nat) (atOpen : Bool) : (wakeAfter d atOpen s).agree = s.agree := rfl
@[simp] theorem wakeAfter_trace (d : Nat) (atOpen : Bool) : (wakeAfter d atOpen s).trace = s.trace := rfl
@[simp] theorem wakeAfter_counters (d : Nat) (atOpen : Bool) : (wakeAfter d atOpen s).counters = s.counters := rfl
@[simp] theorem wakeAfter_panel (d : Nat) (atOpen : Bool) : (wakeAfter d atOpen s).panel = s.panel := rfl
@[simp] theorem wakeAfter_freeCount (d : Nat) (atOpen : Bool) : (wakeAfter d atOpen s).freeCount = s.freeCount := rfl
@[simp] theorem wakeAfter_pending (d : Nat) (atOpen : Bool) : (wakeAfter d atOpen s).pending = s.pending := rfl

@[simp] theorem wakeByPanel_resetHeld : (wakeByPanel s).resetHeld = s.resetHeld := rfl
@[simp] theorem wakeByPanel_straps : (wakeByPanel s).straps = s.straps := rfl
@[simp] theorem wakeByPanel_loader : (wakeByPanel s).loader = s.loader := rfl
@[simp] theorem wakeByPanel_table : (wakeByPanel s).table = s.table := rfl
@[simp] theorem wakeByPanel_fusion : (wakeByPanel s).fusion = s.fusion := rfl
@[simp] theorem wakeByPanel_exc : (wakeByPanel s).exc = s.exc := rfl
@[simp] theorem wakeByPanel_sensor : (wakeByPanel s).sensor = s.sensor := rfl
@[simp] theorem wakeByPanel_detector : (wakeByPanel s).detector = s.detector := rfl
@[simp] theorem wakeByPanel_outbound : (wakeByPanel s).outbound = s.outbound := rfl
@[simp] theorem wakeByPanel_roster : (wakeByPanel s).roster = s.roster := rfl
@[simp] theorem wakeByPanel_agree : (wakeByPanel s).agree = s.agree := rfl
@[simp] theorem wakeByPanel_trace : (wakeByPanel s).trace = s.trace := rfl
@[simp] theorem wakeByPanel_counters : (wakeByPanel s).counters = s.counters := rfl
@[simp] theorem wakeByPanel_panel : (wakeByPanel s).panel = s.panel := rfl
@[simp] theorem wakeByPanel_pending : (wakeByPanel s).pending = s.pending := rfl

@[simp] theorem wakeIfLull_resetHeld : (wakeIfLull s).resetHeld = s.resetHeld := by unfold wakeIfLull; split <;> rfl
@[simp] theorem wakeIfLull_straps : (wakeIfLull s).straps = s.straps := by unfold wakeIfLull; split <;> rfl
@[simp] theorem wakeIfLull_loader : (wakeIfLull s).loader = s.loader := by unfold wakeIfLull; split <;> rfl
@[simp] theorem wakeIfLull_table : (wakeIfLull s).table = s.table := by unfold wakeIfLull; split <;> rfl
@[simp] theorem wakeIfLull_fusion : (wakeIfLull s).fusion = s.fusion := by unfold wakeIfLull; split <;> rfl
@[simp] theorem wakeIfLull_exc : (wakeIfLull s).exc = s.exc := by unfold wakeIfLull; split <;> rfl
@[simp] theorem wakeIfLull_sensor : (wakeIfLull s).sensor = s.sensor := by unfold wakeIfLull; split <;> rfl
@[simp] theorem wakeIfLull_detector : (wakeIfLull s).detector = s.detector := by unfold wakeIfLull; split <;> rfl
@[simp] theorem wakeIfLull_outbound : (wakeIfLull s).outbound = s.outbound := by unfold wakeIfLull; split <;> rfl
@[simp] theorem wakeIfLull_roster : (wakeIfLull s).roster = s.roster := by unfold wakeIfLull; split <;> rfl
@[simp] theorem wakeIfLull_agree : (wakeIfLull s).agree = s.agree := by unfold wakeIfLull; split <;> rfl
@[simp] theorem wakeIfLull_trace : (wakeIfLull s).trace = s.trace := by unfold wakeIfLull; split <;> rfl
@[simp] theorem wakeIfLull_counters : (wakeIfLull s).counters = s.counters := by unfold wakeIfLull; split <;> rfl
@[simp] theorem wakeIfLull_panel : (wakeIfLull s).panel = s.panel := by unfold wakeIfLull; split <;> rfl
@[simp] theorem wakeIfLull_pending : (wakeIfLull s).pending = s.pending := by unfold wakeIfLull; split <;> rfl

@[simp] theorem tickTimers_mode : (tickTimers s).mode = s.mode := rfl
@[simp] theorem tickTimers_resetHeld : (tickTimers s).resetHeld = s.resetHeld := rfl
@[simp] theorem tickTimers_straps : (tickTimers s).straps = s.straps := rfl
@[simp] theorem tickTimers_loader : (tickTimers s).loader = s.loader := rfl
@[simp] theorem tickTimers_table : (tickTimers s).table = s.table := rfl
@[simp] theorem tickTimers_fusion : (tickTimers s).fusion = s.fusion := rfl
@[simp] theorem tickTimers_exc : (tickTimers s).exc = s.exc := rfl
@[simp] theorem tickTimers_outbound : (tickTimers s).outbound = s.outbound := rfl
@[simp] theorem tickTimers_line : (tickTimers s).line = s.line := rfl
@[simp] theorem tickTimers_roster : (tickTimers s).roster = s.roster := rfl
@[simp] theorem tickTimers_agree : (tickTimers s).agree = s.agree := rfl
@[simp] theorem tickTimers_time : (tickTimers s).time = s.time := rfl
@[simp] theorem tickTimers_trace : (tickTimers s).trace = s.trace := rfl
@[simp] theorem tickTimers_counters : (tickTimers s).counters = s.counters := rfl
@[simp] theorem tickTimers_panel : (tickTimers s).panel = s.panel := rfl
@[simp] theorem tickTimers_freeCount : (tickTimers s).freeCount = s.freeCount := rfl
@[simp] theorem tickTimers_pending : (tickTimers s).pending = s.pending := rfl

@[simp] theorem idleTick_mode : (idleTick s).mode = s.mode := rfl
@[simp] theorem idleTick_resetHeld : (idleTick s).resetHeld = s.resetHeld := rfl
@[simp] theorem idleTick_straps : (idleTick s).straps = s.straps := rfl
@[simp] theorem idleTick_loader : (idleTick s).loader = s.loader := rfl
@[simp] theorem idleTick_table : (idleTick s).table = s.table := rfl
@[simp] theorem idleTick_fusion : (idleTick s).fusion = s.fusion := rfl
@[simp] theorem idleTick_exc : (idleTick s).exc = s.exc := rfl
@[simp] theorem idleTick_sensor : (idleTick s).sensor = s.sensor := rfl
@[simp] theorem idleTick_detector : (idleTick s).detector = s.detector := rfl
@[simp] theorem idleTick_outbound : (idleTick s).outbound = s.outbound := rfl
@[simp] theorem idleTick_line : (idleTick s).line = s.line := rfl
@[simp] theorem idleTick_roster : (idleTick s).roster = s.roster := rfl
@[simp] theorem idleTick_agree : (idleTick s).agree = s.agree := rfl
@[simp] theorem idleTick_warn : (idleTick s).warn = s.warn := rfl
@[simp] theorem idleTick_trace : (idleTick s).trace = s.trace := rfl
@[simp] theorem idleTick_counters : (idleTick s).counters = s.counters := rfl
@[simp] theorem idleTick_panel : (idleTick s).panel = s.panel := rfl
@[simp] theorem idleTick_freeCount : (idleTick s).freeCount = s.freeCount := rfl
@[simp] theorem idleTick_pending : (idleTick s).pending = s.pending := rfl

@[simp] theorem awakeTick_mode : (awakeTick s).mode = s.mode := rfl
@[simp] theorem awakeTick_resetHeld : (awakeTick s).resetHeld = s.resetHeld := rfl
@[simp] theorem awakeTick_straps : (awakeTick s).straps = s.straps := rfl
@[simp] theorem awakeTick_loader : (awakeTick s).loader = s.loader := rfl
@[simp] theorem awakeTick_table : (awakeTick s).table = s.table := rfl
@[simp] theorem awakeTick_fusion : (awakeTick s).fusion = s.fusion := rfl
@[simp] theorem awakeTick_exc : (awakeTick s).exc = s.exc := rfl
@[simp] theorem awakeTick_outbound : (awakeTick s).outbound = s.outbound := rfl
@[simp] theorem awakeTick_roster : (awakeTick s).roster = s.roster := rfl
@[simp] theorem awakeTick_agree : (awakeTick s).agree = s.agree := rfl
@[simp] theorem awakeTick_trace : (awakeTick s).trace = s.trace := rfl
@[simp] theorem awakeTick_counters : (awakeTick s).counters = s.counters := rfl
@[simp] theorem awakeTick_panel : (awakeTick s).panel = s.panel := rfl
@[simp] theorem awakeTick_freeCount : (awakeTick s).freeCount = s.freeCount := rfl
@[simp] theorem awakeTick_pending : (awakeTick s).pending = s.pending := rfl

@[simp] theorem lullTick_mode : (lullTick s).mode = s.mode := rfl
@[simp] theorem lullTick_resetHeld : (lullTick s).resetHeld = s.resetHeld := rfl
@[simp] theorem lullTick_straps : (lullTick s).straps = s.straps := rfl
@[simp] theorem lullTick_loader : (lullTick s).loader = s.loader := rfl
@[simp] theorem lullTick_table : (lullTick s).table = s.table := rfl
@[simp] theorem lullTick_fusion : (lullTick s).fusion = s.fusion := rfl
@[simp] theorem lullTick_exc : (lullTick s).exc = s.exc := rfl
@[simp] theorem lullTick_outbound : (lullTick s).outbound = s.outbound := rfl
@[simp] theorem lullTick_roster : (lullTick s).roster = s.roster := rfl
@[simp] theorem lullTick_agree : (lullTick s).agree = s.agree := rfl
@[simp] theorem lullTick_trace : (lullTick s).trace = s.trace := rfl
@[simp] theorem lullTick_counters : (lullTick s).counters = s.counters := rfl
@[simp] theorem lullTick_panel : (lullTick s).panel = s.panel := rfl
@[simp] theorem lullTick_freeCount : (lullTick s).freeCount = s.freeCount := rfl
@[simp] theorem lullTick_pending : (lullTick s).pending = s.pending := rfl

@[simp] theorem judgeWindow_mode (n : Nat) : (judgeWindow n s).mode = s.mode := rfl
@[simp] theorem judgeWindow_resetHeld (n : Nat) : (judgeWindow n s).resetHeld = s.resetHeld := rfl
@[simp] theorem judgeWindow_straps (n : Nat) : (judgeWindow n s).straps = s.straps := rfl
@[simp] theorem judgeWindow_loader (n : Nat) : (judgeWindow n s).loader = s.loader := rfl
@[simp] theorem judgeWindow_table (n : Nat) : (judgeWindow n s).table = s.table := rfl
@[simp] theorem judgeWindow_fusion (n : Nat) : (judgeWindow n s).fusion = s.fusion := rfl
@[simp] theorem judgeWindow_exc (n : Nat) : (judgeWindow n s).exc = s.exc := rfl
@[simp] theorem judgeWindow_sensor (n : Nat) : (judgeWindow n s).sensor = s.sensor := rfl
@[simp] theorem judgeWindow_detector (n : Nat) : (judgeWindow n s).detector = s.detector := rfl
@[simp] theorem judgeWindow_outbound (n : Nat) : (judgeWindow n s).outbound = s.outbound := rfl
@[simp] theorem judgeWindow_line (n : Nat) : (judgeWindow n s).line = s.line := rfl
@[simp] theorem judgeWindow_roster (n : Nat) : (judgeWindow n s).roster = s.roster := rfl
@[simp] theorem judgeWindow_agree (n : Nat) : (judgeWindow n s).agree = s.agree := rfl
@[simp] theorem judgeWindow_warn (n : Nat) : (judgeWindow n s).warn = s.warn := rfl
@[simp] theorem judgeWindow_trace (n : Nat) : (judgeWindow n s).trace = s.trace := rfl
@[simp] theorem judgeWindow_panel (n : Nat) : (judgeWindow n s).panel = s.panel := rfl
@[simp] theorem judgeWindow_freeCount (n : Nat) : (judgeWindow n s).freeCount = s.freeCount := rfl
@[simp] theorem judgeWindow_pending (n : Nat) : (judgeWindow n s).pending = s.pending := rfl

@[simp] theorem hear_mode (i : Station) : (hear i s).mode = s.mode := rfl
@[simp] theorem hear_resetHeld (i : Station) : (hear i s).resetHeld = s.resetHeld := rfl
@[simp] theorem hear_straps (i : Station) : (hear i s).straps = s.straps := rfl
@[simp] theorem hear_loader (i : Station) : (hear i s).loader = s.loader := rfl
@[simp] theorem hear_table (i : Station) : (hear i s).table = s.table := rfl
@[simp] theorem hear_fusion (i : Station) : (hear i s).fusion = s.fusion := rfl
@[simp] theorem hear_exc (i : Station) : (hear i s).exc = s.exc := rfl
@[simp] theorem hear_sensor (i : Station) : (hear i s).sensor = s.sensor := rfl
@[simp] theorem hear_detector (i : Station) : (hear i s).detector = s.detector := rfl
@[simp] theorem hear_outbound (i : Station) : (hear i s).outbound = s.outbound := rfl
@[simp] theorem hear_line (i : Station) : (hear i s).line = s.line := rfl
@[simp] theorem hear_agree (i : Station) : (hear i s).agree = s.agree := rfl
@[simp] theorem hear_time (i : Station) : (hear i s).time = s.time := rfl
@[simp] theorem hear_warn (i : Station) : (hear i s).warn = s.warn := rfl
@[simp] theorem hear_trace (i : Station) : (hear i s).trace = s.trace := rfl
@[simp] theorem hear_counters (i : Station) : (hear i s).counters = s.counters := rfl
@[simp] theorem hear_panel (i : Station) : (hear i s).panel = s.panel := rfl
@[simp] theorem hear_freeCount (i : Station) : (hear i s).freeCount = s.freeCount := rfl
@[simp] theorem hear_pending (i : Station) : (hear i s).pending = s.pending := rfl

@[simp] theorem recordPresence_mode (i : Station) (p : Presence) : (recordPresence i p s).mode = s.mode := rfl
@[simp] theorem recordPresence_resetHeld (i : Station) (p : Presence) : (recordPresence i p s).resetHeld = s.resetHeld := rfl
@[simp] theorem recordPresence_straps (i : Station) (p : Presence) : (recordPresence i p s).straps = s.straps := rfl
@[simp] theorem recordPresence_loader (i : Station) (p : Presence) : (recordPresence i p s).loader = s.loader := rfl
@[simp] theorem recordPresence_table (i : Station) (p : Presence) : (recordPresence i p s).table = s.table := rfl
@[simp] theorem recordPresence_fusion (i : Station) (p : Presence) : (recordPresence i p s).fusion = s.fusion := rfl
@[simp] theorem recordPresence_exc (i : Station) (p : Presence) : (recordPresence i p s).exc = s.exc := rfl
@[simp] theorem recordPresence_sensor (i : Station) (p : Presence) : (recordPresence i p s).sensor = s.sensor := rfl
@[simp] theorem recordPresence_detector (i : Station) (p : Presence) : (recordPresence i p s).detector = s.detector := rfl
@[simp] theorem recordPresence_outbound (i : Station) (p : Presence) : (recordPresence i p s).outbound = s.outbound := rfl
@[simp] theorem recordPresence_line (i : Station) (p : Presence) : (recordPresence i p s).line = s.line := rfl
@[simp] theorem recordPresence_agree (i : Station) (p : Presence) : (recordPresence i p s).agree = s.agree := rfl
@[simp] theorem recordPresence_time (i : Station) (p : Presence) : (recordPresence i p s).time = s.time := rfl
@[simp] theorem recordPresence_warn (i : Station) (p : Presence) : (recordPresence i p s).warn = s.warn := rfl
@[simp] theorem recordPresence_trace (i : Station) (p : Presence) : (recordPresence i p s).trace = s.trace := rfl
@[simp] theorem recordPresence_counters (i : Station) (p : Presence) : (recordPresence i p s).counters = s.counters := rfl
@[simp] theorem recordPresence_panel (i : Station) (p : Presence) : (recordPresence i p s).panel = s.panel := rfl
@[simp] theorem recordPresence_freeCount (i : Station) (p : Presence) : (recordPresence i p s).freeCount = s.freeCount := rfl
@[simp] theorem recordPresence_pending (i : Station) (p : Presence) : (recordPresence i p s).pending = s.pending := rfl

@[simp] theorem closeCycle_mode : (closeCycle s).mode = s.mode := rfl
@[simp] theorem closeCycle_resetHeld : (closeCycle s).resetHeld = s.resetHeld := rfl
@[simp] theorem closeCycle_straps : (closeCycle s).straps = s.straps := rfl
@[simp] theorem closeCycle_loader : (closeCycle s).loader = s.loader := rfl
@[simp] theorem closeCycle_table : (closeCycle s).table = s.table := rfl
@[simp] theorem closeCycle_fusion : (closeCycle s).fusion = s.fusion := rfl
@[simp] theorem closeCycle_exc : (closeCycle s).exc = s.exc := rfl
@[simp] theorem closeCycle_sensor : (closeCycle s).sensor = s.sensor := rfl
@[simp] theorem closeCycle_detector : (closeCycle s).detector = s.detector := rfl
@[simp] theorem closeCycle_outbound : (closeCycle s).outbound = s.outbound := rfl
@[simp] theorem closeCycle_line : (closeCycle s).line = s.line := rfl
@[simp] theorem closeCycle_agree : (closeCycle s).agree = s.agree := rfl
@[simp] theorem closeCycle_time : (closeCycle s).time = s.time := rfl
@[simp] theorem closeCycle_trace : (closeCycle s).trace = s.trace := rfl
@[simp] theorem closeCycle_counters : (closeCycle s).counters = s.counters := rfl
@[simp] theorem closeCycle_freeCount : (closeCycle s).freeCount = s.freeCount := rfl
@[simp] theorem closeCycle_pending : (closeCycle s).pending = s.pending := rfl

@[simp] theorem becomeDiverged_mode : (becomeDiverged s).mode = s.mode := by unfold becomeDiverged; split <;> rfl
@[simp] theorem becomeDiverged_resetHeld : (becomeDiverged s).resetHeld = s.resetHeld := by unfold becomeDiverged; split <;> rfl
@[simp] theorem becomeDiverged_straps : (becomeDiverged s).straps = s.straps := by unfold becomeDiverged; split <;> rfl
@[simp] theorem becomeDiverged_loader : (becomeDiverged s).loader = s.loader := by unfold becomeDiverged; split <;> rfl
@[simp] theorem becomeDiverged_table : (becomeDiverged s).table = s.table := by unfold becomeDiverged; split <;> rfl
@[simp] theorem becomeDiverged_fusion : (becomeDiverged s).fusion = s.fusion := by unfold becomeDiverged; split <;> rfl
@[simp] theorem becomeDiverged_exc : (becomeDiverged s).exc = s.exc := by unfold becomeDiverged; split <;> rfl
@[simp] theorem becomeDiverged_sensor : (becomeDiverged s).sensor = s.sensor := by unfold becomeDiverged; split <;> rfl
@[simp] theorem becomeDiverged_detector : (becomeDiverged s).detector = s.detector := by unfold becomeDiverged; split <;> rfl
@[simp] theorem becomeDiverged_outbound : (becomeDiverged s).outbound = s.outbound := by unfold becomeDiverged; split <;> rfl
@[simp] theorem becomeDiverged_line : (becomeDiverged s).line = s.line := by unfold becomeDiverged; split <;> rfl
@[simp] theorem becomeDiverged_roster : (becomeDiverged s).roster = s.roster := by unfold becomeDiverged; split <;> rfl
@[simp] theorem becomeDiverged_time : (becomeDiverged s).time = s.time := by unfold becomeDiverged; split <;> rfl
@[simp] theorem becomeDiverged_warn : (becomeDiverged s).warn = s.warn := by unfold becomeDiverged; split <;> rfl
@[simp] theorem becomeDiverged_counters : (becomeDiverged s).counters = s.counters := by unfold becomeDiverged; split <;> rfl
@[simp] theorem becomeDiverged_freeCount : (becomeDiverged s).freeCount = s.freeCount := by unfold becomeDiverged; split <;> rfl
@[simp] theorem becomeDiverged_pending : (becomeDiverged s).pending = s.pending := by unfold becomeDiverged; split <;> rfl

@[simp] theorem becomeState_mode (st : AgreeState) : (becomeState st s).mode = s.mode := by unfold becomeState; split <;> simp
@[simp] theorem becomeState_resetHeld (st : AgreeState) : (becomeState st s).resetHeld = s.resetHeld := by unfold becomeState; split <;> simp
@[simp] theorem becomeState_straps (st : AgreeState) : (becomeState st s).straps = s.straps := by unfold becomeState; split <;> simp
@[simp] theorem becomeState_loader (st : AgreeState) : (becomeState st s).loader = s.loader := by unfold becomeState; split <;> simp
@[simp] theorem becomeState_table (st : AgreeState) : (becomeState st s).table = s.table := by unfold becomeState; split <;> simp
@[simp] theorem becomeState_fusion (st : AgreeState) : (becomeState st s).fusion = s.fusion := by unfold becomeState; split <;> simp
@[simp] theorem becomeState_exc (st : AgreeState) : (becomeState st s).exc = s.exc := by unfold becomeState; split <;> simp
@[simp] theorem becomeState_sensor (st : AgreeState) : (becomeState st s).sensor = s.sensor := by unfold becomeState; split <;> simp
@[simp] theorem becomeState_detector (st : AgreeState) : (becomeState st s).detector = s.detector := by unfold becomeState; split <;> simp
@[simp] theorem becomeState_outbound (st : AgreeState) : (becomeState st s).outbound = s.outbound := by unfold becomeState; split <;> simp
@[simp] theorem becomeState_line (st : AgreeState) : (becomeState st s).line = s.line := by unfold becomeState; split <;> simp
@[simp] theorem becomeState_roster (st : AgreeState) : (becomeState st s).roster = s.roster := by unfold becomeState; split <;> simp
@[simp] theorem becomeState_time (st : AgreeState) : (becomeState st s).time = s.time := by unfold becomeState; split <;> simp
@[simp] theorem becomeState_warn (st : AgreeState) : (becomeState st s).warn = s.warn := by unfold becomeState; split <;> simp
@[simp] theorem becomeState_counters (st : AgreeState) : (becomeState st s).counters = s.counters := by unfold becomeState; split <;> simp
@[simp] theorem becomeState_freeCount (st : AgreeState) : (becomeState st s).freeCount = s.freeCount := by unfold becomeState; split <;> simp
@[simp] theorem becomeState_pending (st : AgreeState) : (becomeState st s).pending = s.pending := by unfold becomeState; split <;> simp

@[simp] theorem applyJudgement_mode (group : List Station) (st : AgreeState) : (applyJudgement group st s).mode = s.mode := by simp [applyJudgement]
@[simp] theorem applyJudgement_resetHeld (group : List Station) (st : AgreeState) : (applyJudgement group st s).resetHeld = s.resetHeld := by simp [applyJudgement]
@[simp] theorem applyJudgement_straps (group : List Station) (st : AgreeState) : (applyJudgement group st s).straps = s.straps := by simp [applyJudgement]
@[simp] theorem applyJudgement_loader (group : List Station) (st : AgreeState) : (applyJudgement group st s).loader = s.loader := by simp [applyJudgement]
@[simp] theorem applyJudgement_table (group : List Station) (st : AgreeState) : (applyJudgement group st s).table = s.table := by simp [applyJudgement]
@[simp] theorem applyJudgement_fusion (group : List Station) (st : AgreeState) : (applyJudgement group st s).fusion = s.fusion := by simp [applyJudgement]
@[simp] theorem applyJudgement_exc (group : List Station) (st : AgreeState) : (applyJudgement group st s).exc = s.exc := by simp [applyJudgement]
@[simp] theorem applyJudgement_sensor (group : List Station) (st : AgreeState) : (applyJudgement group st s).sensor = s.sensor := by simp [applyJudgement]
@[simp] theorem applyJudgement_detector (group : List Station) (st : AgreeState) : (applyJudgement group st s).detector = s.detector := by simp [applyJudgement]
@[simp] theorem applyJudgement_outbound (group : List Station) (st : AgreeState) : (applyJudgement group st s).outbound = s.outbound := by simp [applyJudgement]
@[simp] theorem applyJudgement_line (group : List Station) (st : AgreeState) : (applyJudgement group st s).line = s.line := by simp [applyJudgement]
@[simp] theorem applyJudgement_roster (group : List Station) (st : AgreeState) : (applyJudgement group st s).roster = s.roster := by simp [applyJudgement]
@[simp] theorem applyJudgement_time (group : List Station) (st : AgreeState) : (applyJudgement group st s).time = s.time := by simp [applyJudgement]
@[simp] theorem applyJudgement_warn (group : List Station) (st : AgreeState) : (applyJudgement group st s).warn = s.warn := by simp [applyJudgement]
@[simp] theorem applyJudgement_counters (group : List Station) (st : AgreeState) : (applyJudgement group st s).counters = s.counters := by simp [applyJudgement]
@[simp] theorem applyJudgement_freeCount (group : List Station) (st : AgreeState) : (applyJudgement group st s).freeCount = s.freeCount := by simp [applyJudgement]
@[simp] theorem applyJudgement_pending (group : List Station) (st : AgreeState) : (applyJudgement group st s).pending = s.pending := by simp [applyJudgement]

@[simp] theorem runCheck_mode (c : Word16) (overrun after : Bool) : (runCheck c overrun after s).mode = s.mode := by unfold runCheck; split <;> simp
@[simp] theorem runCheck_resetHeld (c : Word16) (overrun after : Bool) : (runCheck c overrun after s).resetHeld = s.resetHeld := by unfold runCheck; split <;> simp
@[simp] theorem runCheck_straps (c : Word16) (overrun after : Bool) : (runCheck c overrun after s).straps = s.straps := by unfold runCheck; split <;> simp
@[simp] theorem runCheck_loader (c : Word16) (overrun after : Bool) : (runCheck c overrun after s).loader = s.loader := by unfold runCheck; split <;> simp
@[simp] theorem runCheck_table (c : Word16) (overrun after : Bool) : (runCheck c overrun after s).table = s.table := by unfold runCheck; split <;> simp
@[simp] theorem runCheck_fusion (c : Word16) (overrun after : Bool) : (runCheck c overrun after s).fusion = s.fusion := by unfold runCheck; split <;> simp
@[simp] theorem runCheck_exc (c : Word16) (overrun after : Bool) : (runCheck c overrun after s).exc = s.exc := by unfold runCheck; split <;> simp
@[simp] theorem runCheck_sensor (c : Word16) (overrun after : Bool) : (runCheck c overrun after s).sensor = s.sensor := by unfold runCheck; split <;> simp
@[simp] theorem runCheck_detector (c : Word16) (overrun after : Bool) : (runCheck c overrun after s).detector = s.detector := by unfold runCheck; split <;> simp
@[simp] theorem runCheck_outbound (c : Word16) (overrun after : Bool) : (runCheck c overrun after s).outbound = s.outbound := by unfold runCheck; split <;> simp
@[simp] theorem runCheck_line (c : Word16) (overrun after : Bool) : (runCheck c overrun after s).line = s.line := by unfold runCheck; split <;> simp
@[simp] theorem runCheck_roster (c : Word16) (overrun after : Bool) : (runCheck c overrun after s).roster = s.roster := by unfold runCheck; split <;> simp
@[simp] theorem runCheck_time (c : Word16) (overrun after : Bool) : (runCheck c overrun after s).time = s.time := by unfold runCheck; split <;> simp
@[simp] theorem runCheck_counters (c : Word16) (overrun after : Bool) : (runCheck c overrun after s).counters = s.counters := by unfold runCheck; split <;> simp
@[simp] theorem runCheck_freeCount (c : Word16) (overrun after : Bool) : (runCheck c overrun after s).freeCount = s.freeCount := by unfold runCheck; split <;> simp
@[simp] theorem runCheck_pending (c : Word16) (overrun after : Bool) : (runCheck c overrun after s).pending = s.pending := by unfold runCheck; split <;> simp

@[simp] theorem discardStaging_mode (r : DiscardReason) : (discardStaging r s).mode = s.mode := rfl
@[simp] theorem discardStaging_resetHeld (r : DiscardReason) : (discardStaging r s).resetHeld = s.resetHeld := rfl
@[simp] theorem discardStaging_straps (r : DiscardReason) : (discardStaging r s).straps = s.straps := rfl
@[simp] theorem discardStaging_loader (r : DiscardReason) : (discardStaging r s).loader = s.loader := rfl
@[simp] theorem discardStaging_table (r : DiscardReason) : (discardStaging r s).table = s.table := rfl
@[simp] theorem discardStaging_fusion (r : DiscardReason) : (discardStaging r s).fusion = s.fusion := rfl
@[simp] theorem discardStaging_exc (r : DiscardReason) : (discardStaging r s).exc = s.exc := rfl
@[simp] theorem discardStaging_sensor (r : DiscardReason) : (discardStaging r s).sensor = s.sensor := rfl
@[simp] theorem discardStaging_detector (r : DiscardReason) : (discardStaging r s).detector = s.detector := rfl
@[simp] theorem discardStaging_outbound (r : DiscardReason) : (discardStaging r s).outbound = s.outbound := rfl
@[simp] theorem discardStaging_line (r : DiscardReason) : (discardStaging r s).line = s.line := rfl
@[simp] theorem discardStaging_roster (r : DiscardReason) : (discardStaging r s).roster = s.roster := rfl
@[simp] theorem discardStaging_time (r : DiscardReason) : (discardStaging r s).time = s.time := rfl
@[simp] theorem discardStaging_warn (r : DiscardReason) : (discardStaging r s).warn = s.warn := rfl
@[simp] theorem discardStaging_freeCount (r : DiscardReason) : (discardStaging r s).freeCount = s.freeCount := rfl
@[simp] theorem discardStaging_pending (r : DiscardReason) : (discardStaging r s).pending = s.pending := rfl

@[simp] theorem ignoreTransfer_mode : (ignoreTransfer s).mode = s.mode := rfl
@[simp] theorem ignoreTransfer_resetHeld : (ignoreTransfer s).resetHeld = s.resetHeld := rfl
@[simp] theorem ignoreTransfer_straps : (ignoreTransfer s).straps = s.straps := rfl
@[simp] theorem ignoreTransfer_loader : (ignoreTransfer s).loader = s.loader := rfl
@[simp] theorem ignoreTransfer_table : (ignoreTransfer s).table = s.table := rfl
@[simp] theorem ignoreTransfer_fusion : (ignoreTransfer s).fusion = s.fusion := rfl
@[simp] theorem ignoreTransfer_exc : (ignoreTransfer s).exc = s.exc := rfl
@[simp] theorem ignoreTransfer_sensor : (ignoreTransfer s).sensor = s.sensor := rfl
@[simp] theorem ignoreTransfer_detector : (ignoreTransfer s).detector = s.detector := rfl
@[simp] theorem ignoreTransfer_outbound : (ignoreTransfer s).outbound = s.outbound := rfl
@[simp] theorem ignoreTransfer_line : (ignoreTransfer s).line = s.line := rfl
@[simp] theorem ignoreTransfer_roster : (ignoreTransfer s).roster = s.roster := rfl
@[simp] theorem ignoreTransfer_agree : (ignoreTransfer s).agree = s.agree := rfl
@[simp] theorem ignoreTransfer_time : (ignoreTransfer s).time = s.time := rfl
@[simp] theorem ignoreTransfer_warn : (ignoreTransfer s).warn = s.warn := rfl
@[simp] theorem ignoreTransfer_trace : (ignoreTransfer s).trace = s.trace := rfl
@[simp] theorem ignoreTransfer_panel : (ignoreTransfer s).panel = s.panel := rfl
@[simp] theorem ignoreTransfer_freeCount : (ignoreTransfer s).freeCount = s.freeCount := rfl
@[simp] theorem ignoreTransfer_pending : (ignoreTransfer s).pending = s.pending := rfl

@[simp] theorem addToStaging_mode (src : Station) (t : TransferBody) : (addToStaging src t s).mode = s.mode := by unfold addToStaging; split <;> simp
@[simp] theorem addToStaging_resetHeld (src : Station) (t : TransferBody) : (addToStaging src t s).resetHeld = s.resetHeld := by unfold addToStaging; split <;> simp
@[simp] theorem addToStaging_straps (src : Station) (t : TransferBody) : (addToStaging src t s).straps = s.straps := by unfold addToStaging; split <;> simp
@[simp] theorem addToStaging_loader (src : Station) (t : TransferBody) : (addToStaging src t s).loader = s.loader := by unfold addToStaging; split <;> simp
@[simp] theorem addToStaging_table (src : Station) (t : TransferBody) : (addToStaging src t s).table = s.table := by unfold addToStaging; split <;> simp
@[simp] theorem addToStaging_fusion (src : Station) (t : TransferBody) : (addToStaging src t s).fusion = s.fusion := by unfold addToStaging; split <;> simp
@[simp] theorem addToStaging_exc (src : Station) (t : TransferBody) : (addToStaging src t s).exc = s.exc := by unfold addToStaging; split <;> simp
@[simp] theorem addToStaging_sensor (src : Station) (t : TransferBody) : (addToStaging src t s).sensor = s.sensor := by unfold addToStaging; split <;> simp
@[simp] theorem addToStaging_detector (src : Station) (t : TransferBody) : (addToStaging src t s).detector = s.detector := by unfold addToStaging; split <;> simp
@[simp] theorem addToStaging_outbound (src : Station) (t : TransferBody) : (addToStaging src t s).outbound = s.outbound := by unfold addToStaging; split <;> simp
@[simp] theorem addToStaging_line (src : Station) (t : TransferBody) : (addToStaging src t s).line = s.line := by unfold addToStaging; split <;> simp
@[simp] theorem addToStaging_roster (src : Station) (t : TransferBody) : (addToStaging src t s).roster = s.roster := by unfold addToStaging; split <;> simp
@[simp] theorem addToStaging_time (src : Station) (t : TransferBody) : (addToStaging src t s).time = s.time := by unfold addToStaging; split <;> simp
@[simp] theorem addToStaging_warn (src : Station) (t : TransferBody) : (addToStaging src t s).warn = s.warn := by unfold addToStaging; split <;> simp
@[simp] theorem addToStaging_freeCount (src : Station) (t : TransferBody) : (addToStaging src t s).freeCount = s.freeCount := by unfold addToStaging; split <;> simp
@[simp] theorem addToStaging_pending (src : Station) (t : TransferBody) : (addToStaging src t s).pending = s.pending := by unfold addToStaging; split <;> simp

@[simp] theorem takeTransfer_mode (src : Station) (t : TransferBody) : (takeTransfer src t s).mode = s.mode := by unfold takeTransfer; split <;> [simp; (split <;> simp)]
@[simp] theorem takeTransfer_resetHeld (src : Station) (t : TransferBody) : (takeTransfer src t s).resetHeld = s.resetHeld := by unfold takeTransfer; split <;> [simp; (split <;> simp)]
@[simp] theorem takeTransfer_straps (src : Station) (t : TransferBody) : (takeTransfer src t s).straps = s.straps := by unfold takeTransfer; split <;> [simp; (split <;> simp)]
@[simp] theorem takeTransfer_loader (src : Station) (t : TransferBody) : (takeTransfer src t s).loader = s.loader := by unfold takeTransfer; split <;> [simp; (split <;> simp)]
@[simp] theorem takeTransfer_table (src : Station) (t : TransferBody) : (takeTransfer src t s).table = s.table := by unfold takeTransfer; split <;> [simp; (split <;> simp)]
@[simp] theorem takeTransfer_fusion (src : Station) (t : TransferBody) : (takeTransfer src t s).fusion = s.fusion := by unfold takeTransfer; split <;> [simp; (split <;> simp)]
@[simp] theorem takeTransfer_exc (src : Station) (t : TransferBody) : (takeTransfer src t s).exc = s.exc := by unfold takeTransfer; split <;> [simp; (split <;> simp)]
@[simp] theorem takeTransfer_sensor (src : Station) (t : TransferBody) : (takeTransfer src t s).sensor = s.sensor := by unfold takeTransfer; split <;> [simp; (split <;> simp)]
@[simp] theorem takeTransfer_detector (src : Station) (t : TransferBody) : (takeTransfer src t s).detector = s.detector := by unfold takeTransfer; split <;> [simp; (split <;> simp)]
@[simp] theorem takeTransfer_outbound (src : Station) (t : TransferBody) : (takeTransfer src t s).outbound = s.outbound := by unfold takeTransfer; split <;> [simp; (split <;> simp)]
@[simp] theorem takeTransfer_line (src : Station) (t : TransferBody) : (takeTransfer src t s).line = s.line := by unfold takeTransfer; split <;> [simp; (split <;> simp)]
@[simp] theorem takeTransfer_roster (src : Station) (t : TransferBody) : (takeTransfer src t s).roster = s.roster := by unfold takeTransfer; split <;> [simp; (split <;> simp)]
@[simp] theorem takeTransfer_time (src : Station) (t : TransferBody) : (takeTransfer src t s).time = s.time := by unfold takeTransfer; split <;> [simp; (split <;> simp)]
@[simp] theorem takeTransfer_warn (src : Station) (t : TransferBody) : (takeTransfer src t s).warn = s.warn := by unfold takeTransfer; split <;> [simp; (split <;> simp)]
@[simp] theorem takeTransfer_freeCount (src : Station) (t : TransferBody) : (takeTransfer src t s).freeCount = s.freeCount := by unfold takeTransfer; split <;> [simp; (split <;> simp)]
@[simp] theorem takeTransfer_pending (src : Station) (t : TransferBody) : (takeTransfer src t s).pending = s.pending := by unfold takeTransfer; split <;> [simp; (split <;> simp)]

@[simp] theorem clearDiscarded_mode : (clearDiscarded s).mode = s.mode := rfl
@[simp] theorem clearDiscarded_resetHeld : (clearDiscarded s).resetHeld = s.resetHeld := rfl
@[simp] theorem clearDiscarded_straps : (clearDiscarded s).straps = s.straps := rfl
@[simp] theorem clearDiscarded_loader : (clearDiscarded s).loader = s.loader := rfl
@[simp] theorem clearDiscarded_table : (clearDiscarded s).table = s.table := rfl
@[simp] theorem clearDiscarded_fusion : (clearDiscarded s).fusion = s.fusion := rfl
@[simp] theorem clearDiscarded_exc : (clearDiscarded s).exc = s.exc := rfl
@[simp] theorem clearDiscarded_sensor : (clearDiscarded s).sensor = s.sensor := rfl
@[simp] theorem clearDiscarded_detector : (clearDiscarded s).detector = s.detector := rfl
@[simp] theorem clearDiscarded_outbound : (clearDiscarded s).outbound = s.outbound := rfl
@[simp] theorem clearDiscarded_line : (clearDiscarded s).line = s.line := rfl
@[simp] theorem clearDiscarded_roster : (clearDiscarded s).roster = s.roster := rfl
@[simp] theorem clearDiscarded_time : (clearDiscarded s).time = s.time := rfl
@[simp] theorem clearDiscarded_warn : (clearDiscarded s).warn = s.warn := rfl
@[simp] theorem clearDiscarded_trace : (clearDiscarded s).trace = s.trace := rfl
@[simp] theorem clearDiscarded_counters : (clearDiscarded s).counters = s.counters := rfl
@[simp] theorem clearDiscarded_panel : (clearDiscarded s).panel = s.panel := rfl
@[simp] theorem clearDiscarded_freeCount : (clearDiscarded s).freeCount = s.freeCount := rfl
@[simp] theorem clearDiscarded_pending : (clearDiscarded s).pending = s.pending := rfl

@[simp] theorem staleStaging_mode : (staleStaging s).mode = s.mode := by unfold staleStaging; split <;> simp
@[simp] theorem staleStaging_resetHeld : (staleStaging s).resetHeld = s.resetHeld := by unfold staleStaging; split <;> simp
@[simp] theorem staleStaging_straps : (staleStaging s).straps = s.straps := by unfold staleStaging; split <;> simp
@[simp] theorem staleStaging_loader : (staleStaging s).loader = s.loader := by unfold staleStaging; split <;> simp
@[simp] theorem staleStaging_table : (staleStaging s).table = s.table := by unfold staleStaging; split <;> simp
@[simp] theorem staleStaging_fusion : (staleStaging s).fusion = s.fusion := by unfold staleStaging; split <;> simp
@[simp] theorem staleStaging_exc : (staleStaging s).exc = s.exc := by unfold staleStaging; split <;> simp
@[simp] theorem staleStaging_sensor : (staleStaging s).sensor = s.sensor := by unfold staleStaging; split <;> simp
@[simp] theorem staleStaging_detector : (staleStaging s).detector = s.detector := by unfold staleStaging; split <;> simp
@[simp] theorem staleStaging_outbound : (staleStaging s).outbound = s.outbound := by unfold staleStaging; split <;> simp
@[simp] theorem staleStaging_line : (staleStaging s).line = s.line := by unfold staleStaging; split <;> simp
@[simp] theorem staleStaging_roster : (staleStaging s).roster = s.roster := by unfold staleStaging; split <;> simp
@[simp] theorem staleStaging_time : (staleStaging s).time = s.time := by unfold staleStaging; split <;> simp
@[simp] theorem staleStaging_warn : (staleStaging s).warn = s.warn := by unfold staleStaging; split <;> simp
@[simp] theorem staleStaging_freeCount : (staleStaging s).freeCount = s.freeCount := by unfold staleStaging; split <;> simp
@[simp] theorem staleStaging_pending : (staleStaging s).pending = s.pending := by unfold staleStaging; split <;> simp

@[simp] theorem addSighting_mode (g : Sighting) : (addSighting g s).mode = s.mode := by unfold addSighting; split <;> [rfl; (split <;> rfl)]
@[simp] theorem addSighting_resetHeld (g : Sighting) : (addSighting g s).resetHeld = s.resetHeld := by unfold addSighting; split <;> [rfl; (split <;> rfl)]
@[simp] theorem addSighting_straps (g : Sighting) : (addSighting g s).straps = s.straps := by unfold addSighting; split <;> [rfl; (split <;> rfl)]
@[simp] theorem addSighting_loader (g : Sighting) : (addSighting g s).loader = s.loader := by unfold addSighting; split <;> [rfl; (split <;> rfl)]
@[simp] theorem addSighting_table (g : Sighting) : (addSighting g s).table = s.table := by unfold addSighting; split <;> [rfl; (split <;> rfl)]
@[simp] theorem addSighting_exc (g : Sighting) : (addSighting g s).exc = s.exc := by unfold addSighting; split <;> [rfl; (split <;> rfl)]
@[simp] theorem addSighting_sensor (g : Sighting) : (addSighting g s).sensor = s.sensor := by unfold addSighting; split <;> [rfl; (split <;> rfl)]
@[simp] theorem addSighting_detector (g : Sighting) : (addSighting g s).detector = s.detector := by unfold addSighting; split <;> [rfl; (split <;> rfl)]
@[simp] theorem addSighting_outbound (g : Sighting) : (addSighting g s).outbound = s.outbound := by unfold addSighting; split <;> [rfl; (split <;> rfl)]
@[simp] theorem addSighting_line (g : Sighting) : (addSighting g s).line = s.line := by unfold addSighting; split <;> [rfl; (split <;> rfl)]
@[simp] theorem addSighting_roster (g : Sighting) : (addSighting g s).roster = s.roster := by unfold addSighting; split <;> [rfl; (split <;> rfl)]
@[simp] theorem addSighting_agree (g : Sighting) : (addSighting g s).agree = s.agree := by unfold addSighting; split <;> [rfl; (split <;> rfl)]
@[simp] theorem addSighting_time (g : Sighting) : (addSighting g s).time = s.time := by unfold addSighting; split <;> [rfl; (split <;> rfl)]
@[simp] theorem addSighting_warn (g : Sighting) : (addSighting g s).warn = s.warn := by unfold addSighting; split <;> [rfl; (split <;> rfl)]
@[simp] theorem addSighting_trace (g : Sighting) : (addSighting g s).trace = s.trace := by unfold addSighting; split <;> [rfl; (split <;> rfl)]
@[simp] theorem addSighting_panel (g : Sighting) : (addSighting g s).panel = s.panel := by unfold addSighting; split <;> [rfl; (split <;> rfl)]
@[simp] theorem addSighting_freeCount (g : Sighting) : (addSighting g s).freeCount = s.freeCount := by unfold addSighting; split <;> [rfl; (split <;> rfl)]
@[simp] theorem addSighting_pending (g : Sighting) : (addSighting g s).pending = s.pending := by unfold addSighting; split <;> [rfl; (split <;> rfl)]

@[simp] theorem markLabels_mode (number : Word16) (now : Tick) : (markLabels number now s).mode = s.mode := by unfold markLabels; split <;> simp
@[simp] theorem markLabels_resetHeld (number : Word16) (now : Tick) : (markLabels number now s).resetHeld = s.resetHeld := by unfold markLabels; split <;> simp
@[simp] theorem markLabels_straps (number : Word16) (now : Tick) : (markLabels number now s).straps = s.straps := by unfold markLabels; split <;> simp
@[simp] theorem markLabels_loader (number : Word16) (now : Tick) : (markLabels number now s).loader = s.loader := by unfold markLabels; split <;> simp
@[simp] theorem markLabels_table (number : Word16) (now : Tick) : (markLabels number now s).table = s.table := by unfold markLabels; split <;> simp
@[simp] theorem markLabels_exc (number : Word16) (now : Tick) : (markLabels number now s).exc = s.exc := by unfold markLabels; split <;> simp
@[simp] theorem markLabels_sensor (number : Word16) (now : Tick) : (markLabels number now s).sensor = s.sensor := by unfold markLabels; split <;> simp
@[simp] theorem markLabels_detector (number : Word16) (now : Tick) : (markLabels number now s).detector = s.detector := by unfold markLabels; split <;> simp
@[simp] theorem markLabels_outbound (number : Word16) (now : Tick) : (markLabels number now s).outbound = s.outbound := by unfold markLabels; split <;> simp
@[simp] theorem markLabels_line (number : Word16) (now : Tick) : (markLabels number now s).line = s.line := by unfold markLabels; split <;> simp
@[simp] theorem markLabels_roster (number : Word16) (now : Tick) : (markLabels number now s).roster = s.roster := by unfold markLabels; split <;> simp
@[simp] theorem markLabels_time (number : Word16) (now : Tick) : (markLabels number now s).time = s.time := by unfold markLabels; split <;> simp
@[simp] theorem markLabels_warn (number : Word16) (now : Tick) : (markLabels number now s).warn = s.warn := by unfold markLabels; split <;> simp
@[simp] theorem markLabels_freeCount (number : Word16) (now : Tick) : (markLabels number now s).freeCount = s.freeCount := by unfold markLabels; split <;> simp
@[simp] theorem markLabels_pending (number : Word16) (now : Tick) : (markLabels number now s).pending = s.pending := by unfold markLabels; split <;> simp

@[simp] theorem startWaiting_mode : (startWaiting s).mode = s.mode := rfl
@[simp] theorem startWaiting_resetHeld : (startWaiting s).resetHeld = s.resetHeld := rfl
@[simp] theorem startWaiting_straps : (startWaiting s).straps = s.straps := rfl
@[simp] theorem startWaiting_loader : (startWaiting s).loader = s.loader := rfl
@[simp] theorem startWaiting_table : (startWaiting s).table = s.table := rfl
@[simp] theorem startWaiting_exc : (startWaiting s).exc = s.exc := rfl
@[simp] theorem startWaiting_sensor : (startWaiting s).sensor = s.sensor := rfl
@[simp] theorem startWaiting_detector : (startWaiting s).detector = s.detector := rfl
@[simp] theorem startWaiting_outbound : (startWaiting s).outbound = s.outbound := rfl
@[simp] theorem startWaiting_line : (startWaiting s).line = s.line := rfl
@[simp] theorem startWaiting_roster : (startWaiting s).roster = s.roster := rfl
@[simp] theorem startWaiting_agree : (startWaiting s).agree = s.agree := rfl
@[simp] theorem startWaiting_time : (startWaiting s).time = s.time := rfl
@[simp] theorem startWaiting_warn : (startWaiting s).warn = s.warn := rfl
@[simp] theorem startWaiting_trace : (startWaiting s).trace = s.trace := rfl
@[simp] theorem startWaiting_counters : (startWaiting s).counters = s.counters := rfl
@[simp] theorem startWaiting_panel : (startWaiting s).panel = s.panel := rfl
@[simp] theorem startWaiting_freeCount : (startWaiting s).freeCount = s.freeCount := rfl
@[simp] theorem startWaiting_pending : (startWaiting s).pending = s.pending := rfl

@[simp] theorem closingStep_mode (l : Label) : (closingStep l s).mode = s.mode := rfl
@[simp] theorem closingStep_resetHeld (l : Label) : (closingStep l s).resetHeld = s.resetHeld := rfl
@[simp] theorem closingStep_straps (l : Label) : (closingStep l s).straps = s.straps := rfl
@[simp] theorem closingStep_loader (l : Label) : (closingStep l s).loader = s.loader := rfl
@[simp] theorem closingStep_exc (l : Label) : (closingStep l s).exc = s.exc := rfl
@[simp] theorem closingStep_sensor (l : Label) : (closingStep l s).sensor = s.sensor := rfl
@[simp] theorem closingStep_detector (l : Label) : (closingStep l s).detector = s.detector := rfl
@[simp] theorem closingStep_outbound (l : Label) : (closingStep l s).outbound = s.outbound := rfl
@[simp] theorem closingStep_line (l : Label) : (closingStep l s).line = s.line := rfl
@[simp] theorem closingStep_roster (l : Label) : (closingStep l s).roster = s.roster := rfl
@[simp] theorem closingStep_time (l : Label) : (closingStep l s).time = s.time := rfl
@[simp] theorem closingStep_trace (l : Label) : (closingStep l s).trace = s.trace := rfl
@[simp] theorem closingStep_counters (l : Label) : (closingStep l s).counters = s.counters := rfl
@[simp] theorem closingStep_freeCount (l : Label) : (closingStep l s).freeCount = s.freeCount := rfl
@[simp] theorem closingStep_pending (l : Label) : (closingStep l s).pending = s.pending := rfl

@[simp] theorem dropHead_mode (l : Label) : (dropHead l s).mode = s.mode := rfl
@[simp] theorem dropHead_resetHeld (l : Label) : (dropHead l s).resetHeld = s.resetHeld := rfl
@[simp] theorem dropHead_straps (l : Label) : (dropHead l s).straps = s.straps := rfl
@[simp] theorem dropHead_loader (l : Label) : (dropHead l s).loader = s.loader := rfl
@[simp] theorem dropHead_table (l : Label) : (dropHead l s).table = s.table := rfl
@[simp] theorem dropHead_exc (l : Label) : (dropHead l s).exc = s.exc := rfl
@[simp] theorem dropHead_sensor (l : Label) : (dropHead l s).sensor = s.sensor := rfl
@[simp] theorem dropHead_detector (l : Label) : (dropHead l s).detector = s.detector := rfl
@[simp] theorem dropHead_outbound (l : Label) : (dropHead l s).outbound = s.outbound := rfl
@[simp] theorem dropHead_line (l : Label) : (dropHead l s).line = s.line := rfl
@[simp] theorem dropHead_roster (l : Label) : (dropHead l s).roster = s.roster := rfl
@[simp] theorem dropHead_agree (l : Label) : (dropHead l s).agree = s.agree := rfl
@[simp] theorem dropHead_time (l : Label) : (dropHead l s).time = s.time := rfl
@[simp] theorem dropHead_warn (l : Label) : (dropHead l s).warn = s.warn := rfl
@[simp] theorem dropHead_trace (l : Label) : (dropHead l s).trace = s.trace := rfl
@[simp] theorem dropHead_counters (l : Label) : (dropHead l s).counters = s.counters := rfl
@[simp] theorem dropHead_panel (l : Label) : (dropHead l s).panel = s.panel := rfl
@[simp] theorem dropHead_freeCount (l : Label) : (dropHead l s).freeCount = s.freeCount := rfl
@[simp] theorem dropHead_pending (l : Label) : (dropHead l s).pending = s.pending := rfl

@[simp] theorem takeEdge_mode (t : Tick) : (takeEdge t s).mode = s.mode := rfl
@[simp] theorem takeEdge_resetHeld (t : Tick) : (takeEdge t s).resetHeld = s.resetHeld := rfl
@[simp] theorem takeEdge_straps (t : Tick) : (takeEdge t s).straps = s.straps := rfl
@[simp] theorem takeEdge_loader (t : Tick) : (takeEdge t s).loader = s.loader := rfl
@[simp] theorem takeEdge_table (t : Tick) : (takeEdge t s).table = s.table := rfl
@[simp] theorem takeEdge_fusion (t : Tick) : (takeEdge t s).fusion = s.fusion := rfl
@[simp] theorem takeEdge_exc (t : Tick) : (takeEdge t s).exc = s.exc := rfl
@[simp] theorem takeEdge_detector (t : Tick) : (takeEdge t s).detector = s.detector := rfl
@[simp] theorem takeEdge_outbound (t : Tick) : (takeEdge t s).outbound = s.outbound := rfl
@[simp] theorem takeEdge_line (t : Tick) : (takeEdge t s).line = s.line := rfl
@[simp] theorem takeEdge_roster (t : Tick) : (takeEdge t s).roster = s.roster := rfl
@[simp] theorem takeEdge_agree (t : Tick) : (takeEdge t s).agree = s.agree := rfl
@[simp] theorem takeEdge_time (t : Tick) : (takeEdge t s).time = s.time := rfl
@[simp] theorem takeEdge_warn (t : Tick) : (takeEdge t s).warn = s.warn := rfl
@[simp] theorem takeEdge_trace (t : Tick) : (takeEdge t s).trace = s.trace := rfl
@[simp] theorem takeEdge_panel (t : Tick) : (takeEdge t s).panel = s.panel := rfl
@[simp] theorem takeEdge_freeCount (t : Tick) : (takeEdge t s).freeCount = s.freeCount := rfl
@[simp] theorem takeEdge_pending (t : Tick) : (takeEdge t s).pending = s.pending := rfl

@[simp] theorem takeVane_mode (code : BitVec 4) : (takeVane code s).mode = s.mode := rfl
@[simp] theorem takeVane_resetHeld (code : BitVec 4) : (takeVane code s).resetHeld = s.resetHeld := rfl
@[simp] theorem takeVane_straps (code : BitVec 4) : (takeVane code s).straps = s.straps := rfl
@[simp] theorem takeVane_loader (code : BitVec 4) : (takeVane code s).loader = s.loader := rfl
@[simp] theorem takeVane_table (code : BitVec 4) : (takeVane code s).table = s.table := rfl
@[simp] theorem takeVane_fusion (code : BitVec 4) : (takeVane code s).fusion = s.fusion := rfl
@[simp] theorem takeVane_exc (code : BitVec 4) : (takeVane code s).exc = s.exc := rfl
@[simp] theorem takeVane_detector (code : BitVec 4) : (takeVane code s).detector = s.detector := rfl
@[simp] theorem takeVane_outbound (code : BitVec 4) : (takeVane code s).outbound = s.outbound := rfl
@[simp] theorem takeVane_line (code : BitVec 4) : (takeVane code s).line = s.line := rfl
@[simp] theorem takeVane_roster (code : BitVec 4) : (takeVane code s).roster = s.roster := rfl
@[simp] theorem takeVane_agree (code : BitVec 4) : (takeVane code s).agree = s.agree := rfl
@[simp] theorem takeVane_time (code : BitVec 4) : (takeVane code s).time = s.time := rfl
@[simp] theorem takeVane_warn (code : BitVec 4) : (takeVane code s).warn = s.warn := rfl
@[simp] theorem takeVane_trace (code : BitVec 4) : (takeVane code s).trace = s.trace := rfl
@[simp] theorem takeVane_panel (code : BitVec 4) : (takeVane code s).panel = s.panel := rfl
@[simp] theorem takeVane_freeCount (code : BitVec 4) : (takeVane code s).freeCount = s.freeCount := rfl
@[simp] theorem takeVane_pending (code : BitVec 4) : (takeVane code s).pending = s.pending := rfl

@[simp] theorem offerOutbound_mode (g : Sighting) : (offerOutbound g s).mode = s.mode := rfl
@[simp] theorem offerOutbound_resetHeld (g : Sighting) : (offerOutbound g s).resetHeld = s.resetHeld := rfl
@[simp] theorem offerOutbound_straps (g : Sighting) : (offerOutbound g s).straps = s.straps := rfl
@[simp] theorem offerOutbound_loader (g : Sighting) : (offerOutbound g s).loader = s.loader := rfl
@[simp] theorem offerOutbound_table (g : Sighting) : (offerOutbound g s).table = s.table := rfl
@[simp] theorem offerOutbound_fusion (g : Sighting) : (offerOutbound g s).fusion = s.fusion := rfl
@[simp] theorem offerOutbound_exc (g : Sighting) : (offerOutbound g s).exc = s.exc := rfl
@[simp] theorem offerOutbound_sensor (g : Sighting) : (offerOutbound g s).sensor = s.sensor := rfl
@[simp] theorem offerOutbound_detector (g : Sighting) : (offerOutbound g s).detector = s.detector := rfl
@[simp] theorem offerOutbound_line (g : Sighting) : (offerOutbound g s).line = s.line := rfl
@[simp] theorem offerOutbound_roster (g : Sighting) : (offerOutbound g s).roster = s.roster := rfl
@[simp] theorem offerOutbound_agree (g : Sighting) : (offerOutbound g s).agree = s.agree := rfl
@[simp] theorem offerOutbound_time (g : Sighting) : (offerOutbound g s).time = s.time := rfl
@[simp] theorem offerOutbound_warn (g : Sighting) : (offerOutbound g s).warn = s.warn := rfl
@[simp] theorem offerOutbound_trace (g : Sighting) : (offerOutbound g s).trace = s.trace := rfl
@[simp] theorem offerOutbound_panel (g : Sighting) : (offerOutbound g s).panel = s.panel := rfl
@[simp] theorem offerOutbound_freeCount (g : Sighting) : (offerOutbound g s).freeCount = s.freeCount := rfl
@[simp] theorem offerOutbound_pending (g : Sighting) : (offerOutbound g s).pending = s.pending := rfl

@[simp] theorem handSighting_resetHeld (g : Sighting) : (handSighting g s).resetHeld = s.resetHeld := by unfold handSighting; split <;> simp
@[simp] theorem handSighting_straps (g : Sighting) : (handSighting g s).straps = s.straps := by unfold handSighting; split <;> simp
@[simp] theorem handSighting_loader (g : Sighting) : (handSighting g s).loader = s.loader := by unfold handSighting; split <;> simp
@[simp] theorem handSighting_table (g : Sighting) : (handSighting g s).table = s.table := by unfold handSighting; split <;> simp
@[simp] theorem handSighting_fusion (g : Sighting) : (handSighting g s).fusion = s.fusion := by unfold handSighting; split <;> simp
@[simp] theorem handSighting_exc (g : Sighting) : (handSighting g s).exc = s.exc := by unfold handSighting; split <;> simp
@[simp] theorem handSighting_sensor (g : Sighting) : (handSighting g s).sensor = s.sensor := by unfold handSighting; split <;> simp
@[simp] theorem handSighting_detector (g : Sighting) : (handSighting g s).detector = s.detector := by unfold handSighting; split <;> simp
@[simp] theorem handSighting_roster (g : Sighting) : (handSighting g s).roster = s.roster := by unfold handSighting; split <;> simp
@[simp] theorem handSighting_agree (g : Sighting) : (handSighting g s).agree = s.agree := by unfold handSighting; split <;> simp
@[simp] theorem handSighting_trace (g : Sighting) : (handSighting g s).trace = s.trace := by unfold handSighting; split <;> simp
@[simp] theorem handSighting_panel (g : Sighting) : (handSighting g s).panel = s.panel := by unfold handSighting; split <;> simp
@[simp] theorem handSighting_freeCount (g : Sighting) : (handSighting g s).freeCount = s.freeCount := by unfold handSighting; split <;> simp
@[simp] theorem handSighting_pending (g : Sighting) : (handSighting g s).pending = s.pending := by unfold handSighting; split <;> simp

@[simp] theorem handMade_resetHeld (made : Option Sighting) : (handMade made s).resetHeld = s.resetHeld := by unfold handMade; split <;> simp
@[simp] theorem handMade_straps (made : Option Sighting) : (handMade made s).straps = s.straps := by unfold handMade; split <;> simp
@[simp] theorem handMade_loader (made : Option Sighting) : (handMade made s).loader = s.loader := by unfold handMade; split <;> simp
@[simp] theorem handMade_table (made : Option Sighting) : (handMade made s).table = s.table := by unfold handMade; split <;> simp
@[simp] theorem handMade_fusion (made : Option Sighting) : (handMade made s).fusion = s.fusion := by unfold handMade; split <;> simp
@[simp] theorem handMade_exc (made : Option Sighting) : (handMade made s).exc = s.exc := by unfold handMade; split <;> simp
@[simp] theorem handMade_sensor (made : Option Sighting) : (handMade made s).sensor = s.sensor := by unfold handMade; split <;> simp
@[simp] theorem handMade_detector (made : Option Sighting) : (handMade made s).detector = s.detector := by unfold handMade; split <;> simp
@[simp] theorem handMade_roster (made : Option Sighting) : (handMade made s).roster = s.roster := by unfold handMade; split <;> simp
@[simp] theorem handMade_agree (made : Option Sighting) : (handMade made s).agree = s.agree := by unfold handMade; split <;> simp
@[simp] theorem handMade_trace (made : Option Sighting) : (handMade made s).trace = s.trace := by unfold handMade; split <;> simp
@[simp] theorem handMade_panel (made : Option Sighting) : (handMade made s).panel = s.panel := by unfold handMade; split <;> simp
@[simp] theorem handMade_freeCount (made : Option Sighting) : (handMade made s).freeCount = s.freeCount := by unfold handMade; split <;> simp
@[simp] theorem handMade_pending (made : Option Sighting) : (handMade made s).pending = s.pending := by unfold handMade; split <;> simp

@[simp] theorem leaveListening_mode : (leaveListening s).mode = s.mode := by unfold leaveListening; split <;> simp
@[simp] theorem leaveListening_resetHeld : (leaveListening s).resetHeld = s.resetHeld := by unfold leaveListening; split <;> simp
@[simp] theorem leaveListening_straps : (leaveListening s).straps = s.straps := by unfold leaveListening; split <;> simp
@[simp] theorem leaveListening_loader : (leaveListening s).loader = s.loader := by unfold leaveListening; split <;> simp
@[simp] theorem leaveListening_table : (leaveListening s).table = s.table := by unfold leaveListening; split <;> simp
@[simp] theorem leaveListening_fusion : (leaveListening s).fusion = s.fusion := by unfold leaveListening; split <;> simp
@[simp] theorem leaveListening_exc : (leaveListening s).exc = s.exc := by unfold leaveListening; split <;> simp
@[simp] theorem leaveListening_sensor : (leaveListening s).sensor = s.sensor := by unfold leaveListening; split <;> simp
@[simp] theorem leaveListening_outbound : (leaveListening s).outbound = s.outbound := by unfold leaveListening; split <;> simp
@[simp] theorem leaveListening_line : (leaveListening s).line = s.line := by unfold leaveListening; split <;> simp
@[simp] theorem leaveListening_roster : (leaveListening s).roster = s.roster := by unfold leaveListening; split <;> simp
@[simp] theorem leaveListening_agree : (leaveListening s).agree = s.agree := by unfold leaveListening; split <;> simp
@[simp] theorem leaveListening_time : (leaveListening s).time = s.time := by unfold leaveListening; split <;> simp
@[simp] theorem leaveListening_trace : (leaveListening s).trace = s.trace := by unfold leaveListening; split <;> simp
@[simp] theorem leaveListening_counters : (leaveListening s).counters = s.counters := by unfold leaveListening; split <;> simp
@[simp] theorem leaveListening_freeCount : (leaveListening s).freeCount = s.freeCount := by unfold leaveListening; split <;> simp
@[simp] theorem leaveListening_pending : (leaveListening s).pending = s.pending := by unfold leaveListening; split <;> simp

@[simp] theorem enterMute_resetHeld (r : MuteReason) : (enterMute r s).resetHeld = s.resetHeld := by unfold enterMute; split <;> rfl
@[simp] theorem enterMute_straps (r : MuteReason) : (enterMute r s).straps = s.straps := by unfold enterMute; split <;> rfl
@[simp] theorem enterMute_loader (r : MuteReason) : (enterMute r s).loader = s.loader := by unfold enterMute; split <;> rfl
@[simp] theorem enterMute_table (r : MuteReason) : (enterMute r s).table = s.table := by unfold enterMute; split <;> rfl
@[simp] theorem enterMute_fusion (r : MuteReason) : (enterMute r s).fusion = s.fusion := by unfold enterMute; split <;> rfl
@[simp] theorem enterMute_exc (r : MuteReason) : (enterMute r s).exc = s.exc := by unfold enterMute; split <;> rfl
@[simp] theorem enterMute_sensor (r : MuteReason) : (enterMute r s).sensor = s.sensor := by unfold enterMute; split <;> rfl
@[simp] theorem enterMute_detector (r : MuteReason) : (enterMute r s).detector = s.detector := by unfold enterMute; split <;> rfl
@[simp] theorem enterMute_outbound (r : MuteReason) : (enterMute r s).outbound = s.outbound := by unfold enterMute; split <;> rfl
@[simp] theorem enterMute_roster (r : MuteReason) : (enterMute r s).roster = s.roster := by unfold enterMute; split <;> rfl
@[simp] theorem enterMute_agree (r : MuteReason) : (enterMute r s).agree = s.agree := by unfold enterMute; split <;> rfl
@[simp] theorem enterMute_time (r : MuteReason) : (enterMute r s).time = s.time := by unfold enterMute; split <;> rfl
@[simp] theorem enterMute_warn (r : MuteReason) : (enterMute r s).warn = s.warn := by unfold enterMute; split <;> rfl
@[simp] theorem enterMute_trace (r : MuteReason) : (enterMute r s).trace = s.trace := by unfold enterMute; split <;> rfl
@[simp] theorem enterMute_counters (r : MuteReason) : (enterMute r s).counters = s.counters := by unfold enterMute; split <;> rfl
@[simp] theorem enterMute_freeCount (r : MuteReason) : (enterMute r s).freeCount = s.freeCount := by unfold enterMute; split <;> rfl
@[simp] theorem enterMute_pending (r : MuteReason) : (enterMute r s).pending = s.pending := by unfold enterMute; split <;> rfl

@[simp] theorem endCycle_mode : (endCycle s).mode = s.mode := rfl
@[simp] theorem endCycle_resetHeld : (endCycle s).resetHeld = s.resetHeld := rfl
@[simp] theorem endCycle_straps : (endCycle s).straps = s.straps := rfl
@[simp] theorem endCycle_loader : (endCycle s).loader = s.loader := rfl
@[simp] theorem endCycle_table : (endCycle s).table = s.table := rfl
@[simp] theorem endCycle_fusion : (endCycle s).fusion = s.fusion := rfl
@[simp] theorem endCycle_exc : (endCycle s).exc = s.exc := rfl
@[simp] theorem endCycle_sensor : (endCycle s).sensor = s.sensor := rfl
@[simp] theorem endCycle_detector : (endCycle s).detector = s.detector := rfl
@[simp] theorem endCycle_outbound : (endCycle s).outbound = s.outbound := rfl
@[simp] theorem endCycle_roster : (endCycle s).roster = s.roster := rfl
@[simp] theorem endCycle_agree : (endCycle s).agree = s.agree := rfl
@[simp] theorem endCycle_time : (endCycle s).time = s.time := rfl
@[simp] theorem endCycle_warn : (endCycle s).warn = s.warn := rfl
@[simp] theorem endCycle_trace : (endCycle s).trace = s.trace := rfl
@[simp] theorem endCycle_counters : (endCycle s).counters = s.counters := rfl
@[simp] theorem endCycle_panel : (endCycle s).panel = s.panel := rfl
@[simp] theorem endCycle_freeCount : (endCycle s).freeCount = s.freeCount := rfl
@[simp] theorem endCycle_pending : (endCycle s).pending = s.pending := rfl

@[simp] theorem beginOpportunity_mode (k : Nat) : (beginOpportunity k s).mode = s.mode := rfl
@[simp] theorem beginOpportunity_resetHeld (k : Nat) : (beginOpportunity k s).resetHeld = s.resetHeld := rfl
@[simp] theorem beginOpportunity_straps (k : Nat) : (beginOpportunity k s).straps = s.straps := rfl
@[simp] theorem beginOpportunity_loader (k : Nat) : (beginOpportunity k s).loader = s.loader := rfl
@[simp] theorem beginOpportunity_table (k : Nat) : (beginOpportunity k s).table = s.table := rfl
@[simp] theorem beginOpportunity_fusion (k : Nat) : (beginOpportunity k s).fusion = s.fusion := rfl
@[simp] theorem beginOpportunity_exc (k : Nat) : (beginOpportunity k s).exc = s.exc := rfl
@[simp] theorem beginOpportunity_sensor (k : Nat) : (beginOpportunity k s).sensor = s.sensor := rfl
@[simp] theorem beginOpportunity_detector (k : Nat) : (beginOpportunity k s).detector = s.detector := rfl
@[simp] theorem beginOpportunity_outbound (k : Nat) : (beginOpportunity k s).outbound = s.outbound := rfl
@[simp] theorem beginOpportunity_roster (k : Nat) : (beginOpportunity k s).roster = s.roster := rfl
@[simp] theorem beginOpportunity_agree (k : Nat) : (beginOpportunity k s).agree = s.agree := rfl
@[simp] theorem beginOpportunity_time (k : Nat) : (beginOpportunity k s).time = s.time := rfl
@[simp] theorem beginOpportunity_warn (k : Nat) : (beginOpportunity k s).warn = s.warn := rfl
@[simp] theorem beginOpportunity_trace (k : Nat) : (beginOpportunity k s).trace = s.trace := rfl
@[simp] theorem beginOpportunity_counters (k : Nat) : (beginOpportunity k s).counters = s.counters := rfl
@[simp] theorem beginOpportunity_panel (k : Nat) : (beginOpportunity k s).panel = s.panel := rfl
@[simp] theorem beginOpportunity_freeCount (k : Nat) : (beginOpportunity k s).freeCount = s.freeCount := rfl
@[simp] theorem beginOpportunity_pending (k : Nat) : (beginOpportunity k s).pending = s.pending := rfl

@[simp] theorem restartSilence_mode : (restartSilence s).mode = s.mode := rfl
@[simp] theorem restartSilence_resetHeld : (restartSilence s).resetHeld = s.resetHeld := rfl
@[simp] theorem restartSilence_straps : (restartSilence s).straps = s.straps := rfl
@[simp] theorem restartSilence_loader : (restartSilence s).loader = s.loader := rfl
@[simp] theorem restartSilence_table : (restartSilence s).table = s.table := rfl
@[simp] theorem restartSilence_fusion : (restartSilence s).fusion = s.fusion := rfl
@[simp] theorem restartSilence_exc : (restartSilence s).exc = s.exc := rfl
@[simp] theorem restartSilence_sensor : (restartSilence s).sensor = s.sensor := rfl
@[simp] theorem restartSilence_detector : (restartSilence s).detector = s.detector := rfl
@[simp] theorem restartSilence_outbound : (restartSilence s).outbound = s.outbound := rfl
@[simp] theorem restartSilence_roster : (restartSilence s).roster = s.roster := rfl
@[simp] theorem restartSilence_agree : (restartSilence s).agree = s.agree := rfl
@[simp] theorem restartSilence_time : (restartSilence s).time = s.time := rfl
@[simp] theorem restartSilence_warn : (restartSilence s).warn = s.warn := rfl
@[simp] theorem restartSilence_trace : (restartSilence s).trace = s.trace := rfl
@[simp] theorem restartSilence_counters : (restartSilence s).counters = s.counters := rfl
@[simp] theorem restartSilence_panel : (restartSilence s).panel = s.panel := rfl
@[simp] theorem restartSilence_freeCount : (restartSilence s).freeCount = s.freeCount := rfl
@[simp] theorem restartSilence_pending : (restartSilence s).pending = s.pending := rfl

@[simp] theorem cutOpportunity_mode (k : Nat) : (cutOpportunity k s).mode = s.mode := by unfold cutOpportunity; split <;> rfl
@[simp] theorem cutOpportunity_resetHeld (k : Nat) : (cutOpportunity k s).resetHeld = s.resetHeld := by unfold cutOpportunity; split <;> rfl
@[simp] theorem cutOpportunity_straps (k : Nat) : (cutOpportunity k s).straps = s.straps := by unfold cutOpportunity; split <;> rfl
@[simp] theorem cutOpportunity_loader (k : Nat) : (cutOpportunity k s).loader = s.loader := by unfold cutOpportunity; split <;> rfl
@[simp] theorem cutOpportunity_table (k : Nat) : (cutOpportunity k s).table = s.table := by unfold cutOpportunity; split <;> rfl
@[simp] theorem cutOpportunity_fusion (k : Nat) : (cutOpportunity k s).fusion = s.fusion := by unfold cutOpportunity; split <;> rfl
@[simp] theorem cutOpportunity_exc (k : Nat) : (cutOpportunity k s).exc = s.exc := by unfold cutOpportunity; split <;> rfl
@[simp] theorem cutOpportunity_sensor (k : Nat) : (cutOpportunity k s).sensor = s.sensor := by unfold cutOpportunity; split <;> rfl
@[simp] theorem cutOpportunity_detector (k : Nat) : (cutOpportunity k s).detector = s.detector := by unfold cutOpportunity; split <;> rfl
@[simp] theorem cutOpportunity_outbound (k : Nat) : (cutOpportunity k s).outbound = s.outbound := by unfold cutOpportunity; split <;> rfl
@[simp] theorem cutOpportunity_line (k : Nat) : (cutOpportunity k s).line = s.line := by unfold cutOpportunity; split <;> rfl
@[simp] theorem cutOpportunity_roster (k : Nat) : (cutOpportunity k s).roster = s.roster := by unfold cutOpportunity; split <;> rfl
@[simp] theorem cutOpportunity_agree (k : Nat) : (cutOpportunity k s).agree = s.agree := by unfold cutOpportunity; split <;> rfl
@[simp] theorem cutOpportunity_time (k : Nat) : (cutOpportunity k s).time = s.time := by unfold cutOpportunity; split <;> rfl
@[simp] theorem cutOpportunity_warn (k : Nat) : (cutOpportunity k s).warn = s.warn := by unfold cutOpportunity; split <;> rfl
@[simp] theorem cutOpportunity_freeCount (k : Nat) : (cutOpportunity k s).freeCount = s.freeCount := by unfold cutOpportunity; split <;> rfl
@[simp] theorem cutOpportunity_pending (k : Nat) : (cutOpportunity k s).pending = s.pending := by unfold cutOpportunity; split <;> rfl

@[simp] theorem markLine_resetHeld (m : MarkBody) : (markLine m s).resetHeld = s.resetHeld := rfl
@[simp] theorem markLine_straps (m : MarkBody) : (markLine m s).straps = s.straps := rfl
@[simp] theorem markLine_loader (m : MarkBody) : (markLine m s).loader = s.loader := rfl
@[simp] theorem markLine_table (m : MarkBody) : (markLine m s).table = s.table := rfl
@[simp] theorem markLine_fusion (m : MarkBody) : (markLine m s).fusion = s.fusion := rfl
@[simp] theorem markLine_exc (m : MarkBody) : (markLine m s).exc = s.exc := rfl
@[simp] theorem markLine_sensor (m : MarkBody) : (markLine m s).sensor = s.sensor := rfl
@[simp] theorem markLine_detector (m : MarkBody) : (markLine m s).detector = s.detector := rfl
@[simp] theorem markLine_outbound (m : MarkBody) : (markLine m s).outbound = s.outbound := rfl
@[simp] theorem markLine_roster (m : MarkBody) : (markLine m s).roster = s.roster := rfl
@[simp] theorem markLine_agree (m : MarkBody) : (markLine m s).agree = s.agree := rfl
@[simp] theorem markLine_time (m : MarkBody) : (markLine m s).time = s.time := rfl
@[simp] theorem markLine_warn (m : MarkBody) : (markLine m s).warn = s.warn := rfl
@[simp] theorem markLine_trace (m : MarkBody) : (markLine m s).trace = s.trace := rfl
@[simp] theorem markLine_counters (m : MarkBody) : (markLine m s).counters = s.counters := rfl
@[simp] theorem markLine_panel (m : MarkBody) : (markLine m s).panel = s.panel := rfl
@[simp] theorem markLine_freeCount (m : MarkBody) : (markLine m s).freeCount = s.freeCount := rfl
@[simp] theorem markLine_pending (m : MarkBody) : (markLine m s).pending = s.pending := rfl

@[simp] theorem markOpened_mode : (markOpened s).mode = s.mode := rfl
@[simp] theorem markOpened_resetHeld : (markOpened s).resetHeld = s.resetHeld := rfl
@[simp] theorem markOpened_straps : (markOpened s).straps = s.straps := rfl
@[simp] theorem markOpened_loader : (markOpened s).loader = s.loader := rfl
@[simp] theorem markOpened_table : (markOpened s).table = s.table := rfl
@[simp] theorem markOpened_fusion : (markOpened s).fusion = s.fusion := rfl
@[simp] theorem markOpened_exc : (markOpened s).exc = s.exc := rfl
@[simp] theorem markOpened_sensor : (markOpened s).sensor = s.sensor := rfl
@[simp] theorem markOpened_detector : (markOpened s).detector = s.detector := rfl
@[simp] theorem markOpened_outbound : (markOpened s).outbound = s.outbound := rfl
@[simp] theorem markOpened_line : (markOpened s).line = s.line := rfl
@[simp] theorem markOpened_roster : (markOpened s).roster = s.roster := rfl
@[simp] theorem markOpened_agree : (markOpened s).agree = s.agree := rfl
@[simp] theorem markOpened_time : (markOpened s).time = s.time := rfl
@[simp] theorem markOpened_warn : (markOpened s).warn = s.warn := rfl
@[simp] theorem markOpened_freeCount : (markOpened s).freeCount = s.freeCount := rfl
@[simp] theorem markOpened_pending : (markOpened s).pending = s.pending := rfl

@[simp] theorem closeAndCheck_mode (c : Word16) (overrun : Bool) : (closeAndCheck c overrun s).mode = s.mode := by unfold closeAndCheck; split <;> simp
@[simp] theorem closeAndCheck_resetHeld (c : Word16) (overrun : Bool) : (closeAndCheck c overrun s).resetHeld = s.resetHeld := by unfold closeAndCheck; split <;> simp
@[simp] theorem closeAndCheck_straps (c : Word16) (overrun : Bool) : (closeAndCheck c overrun s).straps = s.straps := by unfold closeAndCheck; split <;> simp
@[simp] theorem closeAndCheck_loader (c : Word16) (overrun : Bool) : (closeAndCheck c overrun s).loader = s.loader := by unfold closeAndCheck; split <;> simp
@[simp] theorem closeAndCheck_table (c : Word16) (overrun : Bool) : (closeAndCheck c overrun s).table = s.table := by unfold closeAndCheck; split <;> simp
@[simp] theorem closeAndCheck_fusion (c : Word16) (overrun : Bool) : (closeAndCheck c overrun s).fusion = s.fusion := by unfold closeAndCheck; split <;> simp
@[simp] theorem closeAndCheck_exc (c : Word16) (overrun : Bool) : (closeAndCheck c overrun s).exc = s.exc := by unfold closeAndCheck; split <;> simp
@[simp] theorem closeAndCheck_sensor (c : Word16) (overrun : Bool) : (closeAndCheck c overrun s).sensor = s.sensor := by unfold closeAndCheck; split <;> simp
@[simp] theorem closeAndCheck_detector (c : Word16) (overrun : Bool) : (closeAndCheck c overrun s).detector = s.detector := by unfold closeAndCheck; split <;> simp
@[simp] theorem closeAndCheck_outbound (c : Word16) (overrun : Bool) : (closeAndCheck c overrun s).outbound = s.outbound := by unfold closeAndCheck; split <;> simp
@[simp] theorem closeAndCheck_line (c : Word16) (overrun : Bool) : (closeAndCheck c overrun s).line = s.line := by unfold closeAndCheck; split <;> simp
@[simp] theorem closeAndCheck_time (c : Word16) (overrun : Bool) : (closeAndCheck c overrun s).time = s.time := by unfold closeAndCheck; split <;> simp
@[simp] theorem closeAndCheck_counters (c : Word16) (overrun : Bool) : (closeAndCheck c overrun s).counters = s.counters := by unfold closeAndCheck; split <;> simp
@[simp] theorem closeAndCheck_pending (c : Word16) (overrun : Bool) : (closeAndCheck c overrun s).pending = s.pending := by unfold closeAndCheck; split <;> simp

@[simp] theorem frameIn_mode (src : Station) (b : Body) : (frameIn src b s).mode = s.mode := rfl
@[simp] theorem frameIn_resetHeld (src : Station) (b : Body) : (frameIn src b s).resetHeld = s.resetHeld := rfl
@[simp] theorem frameIn_straps (src : Station) (b : Body) : (frameIn src b s).straps = s.straps := rfl
@[simp] theorem frameIn_loader (src : Station) (b : Body) : (frameIn src b s).loader = s.loader := rfl
@[simp] theorem frameIn_table (src : Station) (b : Body) : (frameIn src b s).table = s.table := rfl
@[simp] theorem frameIn_fusion (src : Station) (b : Body) : (frameIn src b s).fusion = s.fusion := rfl
@[simp] theorem frameIn_exc (src : Station) (b : Body) : (frameIn src b s).exc = s.exc := rfl
@[simp] theorem frameIn_sensor (src : Station) (b : Body) : (frameIn src b s).sensor = s.sensor := rfl
@[simp] theorem frameIn_detector (src : Station) (b : Body) : (frameIn src b s).detector = s.detector := rfl
@[simp] theorem frameIn_outbound (src : Station) (b : Body) : (frameIn src b s).outbound = s.outbound := rfl
@[simp] theorem frameIn_line (src : Station) (b : Body) : (frameIn src b s).line = s.line := rfl
@[simp] theorem frameIn_roster (src : Station) (b : Body) : (frameIn src b s).roster = s.roster := rfl
@[simp] theorem frameIn_agree (src : Station) (b : Body) : (frameIn src b s).agree = s.agree := rfl
@[simp] theorem frameIn_time (src : Station) (b : Body) : (frameIn src b s).time = s.time := rfl
@[simp] theorem frameIn_warn (src : Station) (b : Body) : (frameIn src b s).warn = s.warn := rfl
@[simp] theorem frameIn_freeCount (src : Station) (b : Body) : (frameIn src b s).freeCount = s.freeCount := rfl
@[simp] theorem frameIn_pending (src : Station) (b : Body) : (frameIn src b s).pending = s.pending := rfl

@[simp] theorem lineIdle_mode : (lineIdle s).mode = s.mode := rfl
@[simp] theorem lineIdle_resetHeld : (lineIdle s).resetHeld = s.resetHeld := rfl
@[simp] theorem lineIdle_straps : (lineIdle s).straps = s.straps := rfl
@[simp] theorem lineIdle_loader : (lineIdle s).loader = s.loader := rfl
@[simp] theorem lineIdle_table : (lineIdle s).table = s.table := rfl
@[simp] theorem lineIdle_fusion : (lineIdle s).fusion = s.fusion := rfl
@[simp] theorem lineIdle_exc : (lineIdle s).exc = s.exc := rfl
@[simp] theorem lineIdle_sensor : (lineIdle s).sensor = s.sensor := rfl
@[simp] theorem lineIdle_detector : (lineIdle s).detector = s.detector := rfl
@[simp] theorem lineIdle_outbound : (lineIdle s).outbound = s.outbound := rfl
@[simp] theorem lineIdle_roster : (lineIdle s).roster = s.roster := rfl
@[simp] theorem lineIdle_agree : (lineIdle s).agree = s.agree := rfl
@[simp] theorem lineIdle_time : (lineIdle s).time = s.time := rfl
@[simp] theorem lineIdle_warn : (lineIdle s).warn = s.warn := rfl
@[simp] theorem lineIdle_trace : (lineIdle s).trace = s.trace := rfl
@[simp] theorem lineIdle_counters : (lineIdle s).counters = s.counters := rfl
@[simp] theorem lineIdle_panel : (lineIdle s).panel = s.panel := rfl
@[simp] theorem lineIdle_freeCount : (lineIdle s).freeCount = s.freeCount := rfl
@[simp] theorem lineIdle_pending : (lineIdle s).pending = s.pending := rfl

@[simp] theorem abandonPlan_mode : (abandonPlan s).mode = s.mode := rfl
@[simp] theorem abandonPlan_resetHeld : (abandonPlan s).resetHeld = s.resetHeld := rfl
@[simp] theorem abandonPlan_straps : (abandonPlan s).straps = s.straps := rfl
@[simp] theorem abandonPlan_loader : (abandonPlan s).loader = s.loader := rfl
@[simp] theorem abandonPlan_table : (abandonPlan s).table = s.table := rfl
@[simp] theorem abandonPlan_fusion : (abandonPlan s).fusion = s.fusion := rfl
@[simp] theorem abandonPlan_exc : (abandonPlan s).exc = s.exc := rfl
@[simp] theorem abandonPlan_sensor : (abandonPlan s).sensor = s.sensor := rfl
@[simp] theorem abandonPlan_detector : (abandonPlan s).detector = s.detector := rfl
@[simp] theorem abandonPlan_outbound : (abandonPlan s).outbound = s.outbound := rfl
@[simp] theorem abandonPlan_roster : (abandonPlan s).roster = s.roster := rfl
@[simp] theorem abandonPlan_agree : (abandonPlan s).agree = s.agree := rfl
@[simp] theorem abandonPlan_time : (abandonPlan s).time = s.time := rfl
@[simp] theorem abandonPlan_warn : (abandonPlan s).warn = s.warn := rfl
@[simp] theorem abandonPlan_trace : (abandonPlan s).trace = s.trace := rfl
@[simp] theorem abandonPlan_counters : (abandonPlan s).counters = s.counters := rfl
@[simp] theorem abandonPlan_panel : (abandonPlan s).panel = s.panel := rfl
@[simp] theorem abandonPlan_freeCount : (abandonPlan s).freeCount = s.freeCount := rfl
@[simp] theorem abandonPlan_pending : (abandonPlan s).pending = s.pending := rfl

@[simp] theorem enterResync_resetHeld (src : Station) (b : Body) : (enterResync src b s).resetHeld = s.resetHeld := rfl
@[simp] theorem enterResync_straps (src : Station) (b : Body) : (enterResync src b s).straps = s.straps := rfl
@[simp] theorem enterResync_loader (src : Station) (b : Body) : (enterResync src b s).loader = s.loader := rfl
@[simp] theorem enterResync_table (src : Station) (b : Body) : (enterResync src b s).table = s.table := rfl
@[simp] theorem enterResync_exc (src : Station) (b : Body) : (enterResync src b s).exc = s.exc := rfl
@[simp] theorem enterResync_sensor (src : Station) (b : Body) : (enterResync src b s).sensor = s.sensor := rfl
@[simp] theorem enterResync_detector (src : Station) (b : Body) : (enterResync src b s).detector = s.detector := rfl
@[simp] theorem enterResync_outbound (src : Station) (b : Body) : (enterResync src b s).outbound = s.outbound := rfl
@[simp] theorem enterResync_roster (src : Station) (b : Body) : (enterResync src b s).roster = s.roster := rfl
@[simp] theorem enterResync_time (src : Station) (b : Body) : (enterResync src b s).time = s.time := rfl
@[simp] theorem enterResync_warn (src : Station) (b : Body) : (enterResync src b s).warn = s.warn := rfl
@[simp] theorem enterResync_freeCount (src : Station) (b : Body) : (enterResync src b s).freeCount = s.freeCount := rfl
@[simp] theorem enterResync_pending (src : Station) (b : Body) : (enterResync src b s).pending = s.pending := rfl

@[simp] theorem resyncCycle_mode (b : Body) : (resyncCycle b s).mode = s.mode := rfl
@[simp] theorem resyncCycle_resetHeld (b : Body) : (resyncCycle b s).resetHeld = s.resetHeld := rfl
@[simp] theorem resyncCycle_straps (b : Body) : (resyncCycle b s).straps = s.straps := rfl
@[simp] theorem resyncCycle_loader (b : Body) : (resyncCycle b s).loader = s.loader := rfl
@[simp] theorem resyncCycle_table (b : Body) : (resyncCycle b s).table = s.table := rfl
@[simp] theorem resyncCycle_fusion (b : Body) : (resyncCycle b s).fusion = s.fusion := rfl
@[simp] theorem resyncCycle_exc (b : Body) : (resyncCycle b s).exc = s.exc := rfl
@[simp] theorem resyncCycle_sensor (b : Body) : (resyncCycle b s).sensor = s.sensor := rfl
@[simp] theorem resyncCycle_detector (b : Body) : (resyncCycle b s).detector = s.detector := rfl
@[simp] theorem resyncCycle_outbound (b : Body) : (resyncCycle b s).outbound = s.outbound := rfl
@[simp] theorem resyncCycle_roster (b : Body) : (resyncCycle b s).roster = s.roster := rfl
@[simp] theorem resyncCycle_agree (b : Body) : (resyncCycle b s).agree = s.agree := rfl
@[simp] theorem resyncCycle_time (b : Body) : (resyncCycle b s).time = s.time := rfl
@[simp] theorem resyncCycle_warn (b : Body) : (resyncCycle b s).warn = s.warn := rfl
@[simp] theorem resyncCycle_trace (b : Body) : (resyncCycle b s).trace = s.trace := rfl
@[simp] theorem resyncCycle_counters (b : Body) : (resyncCycle b s).counters = s.counters := rfl
@[simp] theorem resyncCycle_panel (b : Body) : (resyncCycle b s).panel = s.panel := rfl
@[simp] theorem resyncCycle_freeCount (b : Body) : (resyncCycle b s).freeCount = s.freeCount := rfl
@[simp] theorem resyncCycle_pending (b : Body) : (resyncCycle b s).pending = s.pending := rfl

@[simp] theorem countRejection_mode (r : RejectReason) (h : Option Byte) : (countRejection r h s).mode = s.mode := rfl
@[simp] theorem countRejection_resetHeld (r : RejectReason) (h : Option Byte) : (countRejection r h s).resetHeld = s.resetHeld := rfl
@[simp] theorem countRejection_straps (r : RejectReason) (h : Option Byte) : (countRejection r h s).straps = s.straps := rfl
@[simp] theorem countRejection_loader (r : RejectReason) (h : Option Byte) : (countRejection r h s).loader = s.loader := rfl
@[simp] theorem countRejection_table (r : RejectReason) (h : Option Byte) : (countRejection r h s).table = s.table := rfl
@[simp] theorem countRejection_fusion (r : RejectReason) (h : Option Byte) : (countRejection r h s).fusion = s.fusion := rfl
@[simp] theorem countRejection_exc (r : RejectReason) (h : Option Byte) : (countRejection r h s).exc = s.exc := rfl
@[simp] theorem countRejection_sensor (r : RejectReason) (h : Option Byte) : (countRejection r h s).sensor = s.sensor := rfl
@[simp] theorem countRejection_detector (r : RejectReason) (h : Option Byte) : (countRejection r h s).detector = s.detector := rfl
@[simp] theorem countRejection_outbound (r : RejectReason) (h : Option Byte) : (countRejection r h s).outbound = s.outbound := rfl
@[simp] theorem countRejection_line (r : RejectReason) (h : Option Byte) : (countRejection r h s).line = s.line := rfl
@[simp] theorem countRejection_roster (r : RejectReason) (h : Option Byte) : (countRejection r h s).roster = s.roster := rfl
@[simp] theorem countRejection_agree (r : RejectReason) (h : Option Byte) : (countRejection r h s).agree = s.agree := rfl
@[simp] theorem countRejection_time (r : RejectReason) (h : Option Byte) : (countRejection r h s).time = s.time := rfl
@[simp] theorem countRejection_warn (r : RejectReason) (h : Option Byte) : (countRejection r h s).warn = s.warn := rfl
@[simp] theorem countRejection_freeCount (r : RejectReason) (h : Option Byte) : (countRejection r h s).freeCount = s.freeCount := rfl
@[simp] theorem countRejection_pending (r : RejectReason) (h : Option Byte) : (countRejection r h s).pending = s.pending := rfl

@[simp] theorem noteRejection_mode (r : RejectReason) (isCut : Bool) (h : Option Byte) : (noteRejection r isCut h s).mode = s.mode := by unfold noteRejection; split <;> simp
@[simp] theorem noteRejection_resetHeld (r : RejectReason) (isCut : Bool) (h : Option Byte) : (noteRejection r isCut h s).resetHeld = s.resetHeld := by unfold noteRejection; split <;> simp
@[simp] theorem noteRejection_straps (r : RejectReason) (isCut : Bool) (h : Option Byte) : (noteRejection r isCut h s).straps = s.straps := by unfold noteRejection; split <;> simp
@[simp] theorem noteRejection_loader (r : RejectReason) (isCut : Bool) (h : Option Byte) : (noteRejection r isCut h s).loader = s.loader := by unfold noteRejection; split <;> simp
@[simp] theorem noteRejection_table (r : RejectReason) (isCut : Bool) (h : Option Byte) : (noteRejection r isCut h s).table = s.table := by unfold noteRejection; split <;> simp
@[simp] theorem noteRejection_fusion (r : RejectReason) (isCut : Bool) (h : Option Byte) : (noteRejection r isCut h s).fusion = s.fusion := by unfold noteRejection; split <;> simp
@[simp] theorem noteRejection_exc (r : RejectReason) (isCut : Bool) (h : Option Byte) : (noteRejection r isCut h s).exc = s.exc := by unfold noteRejection; split <;> simp
@[simp] theorem noteRejection_sensor (r : RejectReason) (isCut : Bool) (h : Option Byte) : (noteRejection r isCut h s).sensor = s.sensor := by unfold noteRejection; split <;> simp
@[simp] theorem noteRejection_detector (r : RejectReason) (isCut : Bool) (h : Option Byte) : (noteRejection r isCut h s).detector = s.detector := by unfold noteRejection; split <;> simp
@[simp] theorem noteRejection_outbound (r : RejectReason) (isCut : Bool) (h : Option Byte) : (noteRejection r isCut h s).outbound = s.outbound := by unfold noteRejection; split <;> simp
@[simp] theorem noteRejection_line (r : RejectReason) (isCut : Bool) (h : Option Byte) : (noteRejection r isCut h s).line = s.line := by unfold noteRejection; split <;> simp
@[simp] theorem noteRejection_roster (r : RejectReason) (isCut : Bool) (h : Option Byte) : (noteRejection r isCut h s).roster = s.roster := by unfold noteRejection; split <;> simp
@[simp] theorem noteRejection_agree (r : RejectReason) (isCut : Bool) (h : Option Byte) : (noteRejection r isCut h s).agree = s.agree := by unfold noteRejection; split <;> simp
@[simp] theorem noteRejection_time (r : RejectReason) (isCut : Bool) (h : Option Byte) : (noteRejection r isCut h s).time = s.time := by unfold noteRejection; split <;> simp
@[simp] theorem noteRejection_warn (r : RejectReason) (isCut : Bool) (h : Option Byte) : (noteRejection r isCut h s).warn = s.warn := by unfold noteRejection; split <;> simp
@[simp] theorem noteRejection_freeCount (r : RejectReason) (isCut : Bool) (h : Option Byte) : (noteRejection r isCut h s).freeCount = s.freeCount := by unfold noteRejection; split <;> simp
@[simp] theorem noteRejection_pending (r : RejectReason) (isCut : Bool) (h : Option Byte) : (noteRejection r isCut h s).pending = s.pending := by unfold noteRejection; split <;> simp

@[simp] theorem foundDuplicate_resetHeld (h : Option Byte) : (foundDuplicate h s).resetHeld = s.resetHeld := by simp [foundDuplicate]
@[simp] theorem foundDuplicate_straps (h : Option Byte) : (foundDuplicate h s).straps = s.straps := by simp [foundDuplicate]
@[simp] theorem foundDuplicate_loader (h : Option Byte) : (foundDuplicate h s).loader = s.loader := by simp [foundDuplicate]
@[simp] theorem foundDuplicate_table (h : Option Byte) : (foundDuplicate h s).table = s.table := by simp [foundDuplicate]
@[simp] theorem foundDuplicate_fusion (h : Option Byte) : (foundDuplicate h s).fusion = s.fusion := by simp [foundDuplicate]
@[simp] theorem foundDuplicate_exc (h : Option Byte) : (foundDuplicate h s).exc = s.exc := by simp [foundDuplicate]
@[simp] theorem foundDuplicate_sensor (h : Option Byte) : (foundDuplicate h s).sensor = s.sensor := by simp [foundDuplicate]
@[simp] theorem foundDuplicate_detector (h : Option Byte) : (foundDuplicate h s).detector = s.detector := by simp [foundDuplicate]
@[simp] theorem foundDuplicate_outbound (h : Option Byte) : (foundDuplicate h s).outbound = s.outbound := by simp [foundDuplicate]
@[simp] theorem foundDuplicate_roster (h : Option Byte) : (foundDuplicate h s).roster = s.roster := by simp [foundDuplicate]
@[simp] theorem foundDuplicate_agree (h : Option Byte) : (foundDuplicate h s).agree = s.agree := by simp [foundDuplicate]
@[simp] theorem foundDuplicate_time (h : Option Byte) : (foundDuplicate h s).time = s.time := by simp [foundDuplicate]
@[simp] theorem foundDuplicate_warn (h : Option Byte) : (foundDuplicate h s).warn = s.warn := by simp [foundDuplicate]
@[simp] theorem foundDuplicate_counters (h : Option Byte) : (foundDuplicate h s).counters = s.counters := by simp [foundDuplicate]
@[simp] theorem foundDuplicate_freeCount (h : Option Byte) : (foundDuplicate h s).freeCount = s.freeCount := by simp [foundDuplicate]
@[simp] theorem foundDuplicate_pending (h : Option Byte) : (foundDuplicate h s).pending = s.pending := by simp [foundDuplicate]

@[simp] theorem sendMark_mode : (sendMark s).mode = s.mode := rfl
@[simp] theorem sendMark_resetHeld : (sendMark s).resetHeld = s.resetHeld := rfl
@[simp] theorem sendMark_straps : (sendMark s).straps = s.straps := rfl
@[simp] theorem sendMark_loader : (sendMark s).loader = s.loader := rfl
@[simp] theorem sendMark_table : (sendMark s).table = s.table := rfl
@[simp] theorem sendMark_fusion : (sendMark s).fusion = s.fusion := rfl
@[simp] theorem sendMark_exc : (sendMark s).exc = s.exc := rfl
@[simp] theorem sendMark_sensor : (sendMark s).sensor = s.sensor := rfl
@[simp] theorem sendMark_detector : (sendMark s).detector = s.detector := rfl
@[simp] theorem sendMark_outbound : (sendMark s).outbound = s.outbound := rfl
@[simp] theorem sendMark_roster : (sendMark s).roster = s.roster := rfl
@[simp] theorem sendMark_agree : (sendMark s).agree = s.agree := rfl
@[simp] theorem sendMark_time : (sendMark s).time = s.time := rfl
@[simp] theorem sendMark_warn : (sendMark s).warn = s.warn := rfl
@[simp] theorem sendMark_trace : (sendMark s).trace = s.trace := rfl
@[simp] theorem sendMark_counters : (sendMark s).counters = s.counters := rfl
@[simp] theorem sendMark_panel : (sendMark s).panel = s.panel := rfl
@[simp] theorem sendMark_freeCount : (sendMark s).freeCount = s.freeCount := rfl
@[simp] theorem sendMark_pending : (sendMark s).pending = s.pending := rfl

@[simp] theorem openExpired_mode : (openExpired s).mode = s.mode := by unfold openExpired; split <;> rfl
@[simp] theorem openExpired_resetHeld : (openExpired s).resetHeld = s.resetHeld := by unfold openExpired; split <;> rfl
@[simp] theorem openExpired_straps : (openExpired s).straps = s.straps := by unfold openExpired; split <;> rfl
@[simp] theorem openExpired_loader : (openExpired s).loader = s.loader := by unfold openExpired; split <;> rfl
@[simp] theorem openExpired_table : (openExpired s).table = s.table := by unfold openExpired; split <;> rfl
@[simp] theorem openExpired_fusion : (openExpired s).fusion = s.fusion := by unfold openExpired; split <;> rfl
@[simp] theorem openExpired_exc : (openExpired s).exc = s.exc := by unfold openExpired; split <;> rfl
@[simp] theorem openExpired_sensor : (openExpired s).sensor = s.sensor := by unfold openExpired; split <;> rfl
@[simp] theorem openExpired_detector : (openExpired s).detector = s.detector := by unfold openExpired; split <;> rfl
@[simp] theorem openExpired_outbound : (openExpired s).outbound = s.outbound := by unfold openExpired; split <;> rfl
@[simp] theorem openExpired_roster : (openExpired s).roster = s.roster := by unfold openExpired; split <;> rfl
@[simp] theorem openExpired_agree : (openExpired s).agree = s.agree := by unfold openExpired; split <;> rfl
@[simp] theorem openExpired_time : (openExpired s).time = s.time := by unfold openExpired; split <;> rfl
@[simp] theorem openExpired_warn : (openExpired s).warn = s.warn := by unfold openExpired; split <;> rfl
@[simp] theorem openExpired_trace : (openExpired s).trace = s.trace := by unfold openExpired; split <;> rfl
@[simp] theorem openExpired_counters : (openExpired s).counters = s.counters := by unfold openExpired; split <;> rfl
@[simp] theorem openExpired_panel : (openExpired s).panel = s.panel := by unfold openExpired; split <;> rfl
@[simp] theorem openExpired_freeCount : (openExpired s).freeCount = s.freeCount := by unfold openExpired; split <;> rfl
@[simp] theorem openExpired_pending : (openExpired s).pending = s.pending := by unfold openExpired; split <;> rfl

@[simp] theorem quietWaitOver_mode (skipped : Bool) : (quietWaitOver skipped s).mode = s.mode := by unfold quietWaitOver; (repeat' split) <;> rfl
@[simp] theorem quietWaitOver_resetHeld (skipped : Bool) : (quietWaitOver skipped s).resetHeld = s.resetHeld := by unfold quietWaitOver; (repeat' split) <;> rfl
@[simp] theorem quietWaitOver_straps (skipped : Bool) : (quietWaitOver skipped s).straps = s.straps := by unfold quietWaitOver; (repeat' split) <;> rfl
@[simp] theorem quietWaitOver_loader (skipped : Bool) : (quietWaitOver skipped s).loader = s.loader := by unfold quietWaitOver; (repeat' split) <;> rfl
@[simp] theorem quietWaitOver_table (skipped : Bool) : (quietWaitOver skipped s).table = s.table := by unfold quietWaitOver; (repeat' split) <;> rfl
@[simp] theorem quietWaitOver_fusion (skipped : Bool) : (quietWaitOver skipped s).fusion = s.fusion := by unfold quietWaitOver; (repeat' split) <;> rfl
@[simp] theorem quietWaitOver_exc (skipped : Bool) : (quietWaitOver skipped s).exc = s.exc := by unfold quietWaitOver; (repeat' split) <;> rfl
@[simp] theorem quietWaitOver_sensor (skipped : Bool) : (quietWaitOver skipped s).sensor = s.sensor := by unfold quietWaitOver; (repeat' split) <;> rfl
@[simp] theorem quietWaitOver_detector (skipped : Bool) : (quietWaitOver skipped s).detector = s.detector := by unfold quietWaitOver; (repeat' split) <;> rfl
@[simp] theorem quietWaitOver_outbound (skipped : Bool) : (quietWaitOver skipped s).outbound = s.outbound := by unfold quietWaitOver; (repeat' split) <;> rfl
@[simp] theorem quietWaitOver_roster (skipped : Bool) : (quietWaitOver skipped s).roster = s.roster := by unfold quietWaitOver; (repeat' split) <;> rfl
@[simp] theorem quietWaitOver_agree (skipped : Bool) : (quietWaitOver skipped s).agree = s.agree := by unfold quietWaitOver; (repeat' split) <;> rfl
@[simp] theorem quietWaitOver_time (skipped : Bool) : (quietWaitOver skipped s).time = s.time := by unfold quietWaitOver; (repeat' split) <;> rfl
@[simp] theorem quietWaitOver_warn (skipped : Bool) : (quietWaitOver skipped s).warn = s.warn := by unfold quietWaitOver; (repeat' split) <;> rfl
@[simp] theorem quietWaitOver_trace (skipped : Bool) : (quietWaitOver skipped s).trace = s.trace := by unfold quietWaitOver; (repeat' split) <;> rfl
@[simp] theorem quietWaitOver_counters (skipped : Bool) : (quietWaitOver skipped s).counters = s.counters := by unfold quietWaitOver; (repeat' split) <;> rfl
@[simp] theorem quietWaitOver_panel (skipped : Bool) : (quietWaitOver skipped s).panel = s.panel := by unfold quietWaitOver; (repeat' split) <;> rfl
@[simp] theorem quietWaitOver_freeCount (skipped : Bool) : (quietWaitOver skipped s).freeCount = s.freeCount := by unfold quietWaitOver; (repeat' split) <;> rfl
@[simp] theorem quietWaitOver_pending (skipped : Bool) : (quietWaitOver skipped s).pending = s.pending := by unfold quietWaitOver; (repeat' split) <;> rfl

@[simp] theorem collide_mode : (collide s).mode = s.mode := rfl
@[simp] theorem collide_resetHeld : (collide s).resetHeld = s.resetHeld := rfl
@[simp] theorem collide_straps : (collide s).straps = s.straps := rfl
@[simp] theorem collide_loader : (collide s).loader = s.loader := rfl
@[simp] theorem collide_table : (collide s).table = s.table := rfl
@[simp] theorem collide_fusion : (collide s).fusion = s.fusion := rfl
@[simp] theorem collide_exc : (collide s).exc = s.exc := rfl
@[simp] theorem collide_sensor : (collide s).sensor = s.sensor := rfl
@[simp] theorem collide_detector : (collide s).detector = s.detector := rfl
@[simp] theorem collide_outbound : (collide s).outbound = s.outbound := rfl
@[simp] theorem collide_roster : (collide s).roster = s.roster := rfl
@[simp] theorem collide_agree : (collide s).agree = s.agree := rfl
@[simp] theorem collide_time : (collide s).time = s.time := rfl
@[simp] theorem collide_warn : (collide s).warn = s.warn := rfl
@[simp] theorem collide_freeCount : (collide s).freeCount = s.freeCount := rfl
@[simp] theorem collide_pending : (collide s).pending = s.pending := rfl

@[simp] theorem beginFrame_mode (p : Plan) (b : Option Body) : (beginFrame p b s).mode = s.mode := by unfold beginFrame; split <;> rfl
@[simp] theorem beginFrame_resetHeld (p : Plan) (b : Option Body) : (beginFrame p b s).resetHeld = s.resetHeld := by unfold beginFrame; split <;> rfl
@[simp] theorem beginFrame_straps (p : Plan) (b : Option Body) : (beginFrame p b s).straps = s.straps := by unfold beginFrame; split <;> rfl
@[simp] theorem beginFrame_loader (p : Plan) (b : Option Body) : (beginFrame p b s).loader = s.loader := by unfold beginFrame; split <;> rfl
@[simp] theorem beginFrame_table (p : Plan) (b : Option Body) : (beginFrame p b s).table = s.table := by unfold beginFrame; split <;> rfl
@[simp] theorem beginFrame_fusion (p : Plan) (b : Option Body) : (beginFrame p b s).fusion = s.fusion := by unfold beginFrame; split <;> rfl
@[simp] theorem beginFrame_exc (p : Plan) (b : Option Body) : (beginFrame p b s).exc = s.exc := by unfold beginFrame; split <;> rfl
@[simp] theorem beginFrame_sensor (p : Plan) (b : Option Body) : (beginFrame p b s).sensor = s.sensor := by unfold beginFrame; split <;> rfl
@[simp] theorem beginFrame_detector (p : Plan) (b : Option Body) : (beginFrame p b s).detector = s.detector := by unfold beginFrame; split <;> rfl
@[simp] theorem beginFrame_outbound (p : Plan) (b : Option Body) : (beginFrame p b s).outbound = s.outbound := by unfold beginFrame; split <;> rfl
@[simp] theorem beginFrame_roster (p : Plan) (b : Option Body) : (beginFrame p b s).roster = s.roster := by unfold beginFrame; split <;> rfl
@[simp] theorem beginFrame_agree (p : Plan) (b : Option Body) : (beginFrame p b s).agree = s.agree := by unfold beginFrame; split <;> rfl
@[simp] theorem beginFrame_time (p : Plan) (b : Option Body) : (beginFrame p b s).time = s.time := by unfold beginFrame; split <;> rfl
@[simp] theorem beginFrame_warn (p : Plan) (b : Option Body) : (beginFrame p b s).warn = s.warn := by unfold beginFrame; split <;> rfl
@[simp] theorem beginFrame_trace (p : Plan) (b : Option Body) : (beginFrame p b s).trace = s.trace := by unfold beginFrame; split <;> rfl
@[simp] theorem beginFrame_counters (p : Plan) (b : Option Body) : (beginFrame p b s).counters = s.counters := by unfold beginFrame; split <;> rfl
@[simp] theorem beginFrame_panel (p : Plan) (b : Option Body) : (beginFrame p b s).panel = s.panel := by unfold beginFrame; split <;> rfl
@[simp] theorem beginFrame_freeCount (p : Plan) (b : Option Body) : (beginFrame p b s).freeCount = s.freeCount := by unfold beginFrame; split <;> rfl
@[simp] theorem beginFrame_pending (p : Plan) (b : Option Body) : (beginFrame p b s).pending = s.pending := by unfold beginFrame; split <;> rfl

@[simp] theorem beginNext_mode (p : Plan) : (beginNext p s).mode = s.mode := by unfold beginNext; split <;> simp
@[simp] theorem beginNext_resetHeld (p : Plan) : (beginNext p s).resetHeld = s.resetHeld := by unfold beginNext; split <;> simp
@[simp] theorem beginNext_straps (p : Plan) : (beginNext p s).straps = s.straps := by unfold beginNext; split <;> simp
@[simp] theorem beginNext_loader (p : Plan) : (beginNext p s).loader = s.loader := by unfold beginNext; split <;> simp
@[simp] theorem beginNext_table (p : Plan) : (beginNext p s).table = s.table := by unfold beginNext; split <;> simp
@[simp] theorem beginNext_fusion (p : Plan) : (beginNext p s).fusion = s.fusion := by unfold beginNext; split <;> simp
@[simp] theorem beginNext_exc (p : Plan) : (beginNext p s).exc = s.exc := by unfold beginNext; split <;> simp
@[simp] theorem beginNext_sensor (p : Plan) : (beginNext p s).sensor = s.sensor := by unfold beginNext; split <;> simp
@[simp] theorem beginNext_detector (p : Plan) : (beginNext p s).detector = s.detector := by unfold beginNext; split <;> simp
@[simp] theorem beginNext_outbound (p : Plan) : (beginNext p s).outbound = s.outbound := by unfold beginNext; split <;> simp
@[simp] theorem beginNext_roster (p : Plan) : (beginNext p s).roster = s.roster := by unfold beginNext; split <;> simp
@[simp] theorem beginNext_agree (p : Plan) : (beginNext p s).agree = s.agree := by unfold beginNext; split <;> simp
@[simp] theorem beginNext_time (p : Plan) : (beginNext p s).time = s.time := by unfold beginNext; split <;> simp
@[simp] theorem beginNext_warn (p : Plan) : (beginNext p s).warn = s.warn := by unfold beginNext; split <;> simp
@[simp] theorem beginNext_trace (p : Plan) : (beginNext p s).trace = s.trace := by unfold beginNext; split <;> simp
@[simp] theorem beginNext_counters (p : Plan) : (beginNext p s).counters = s.counters := by unfold beginNext; split <;> simp
@[simp] theorem beginNext_panel (p : Plan) : (beginNext p s).panel = s.panel := by unfold beginNext; split <;> simp
@[simp] theorem beginNext_freeCount (p : Plan) : (beginNext p s).freeCount = s.freeCount := by unfold beginNext; split <;> simp
@[simp] theorem beginNext_pending (p : Plan) : (beginNext p s).pending = s.pending := by unfold beginNext; split <;> simp

@[simp] theorem failAttempt_mode (b : Body) (p : Plan) : (failAttempt b p s).mode = s.mode := rfl
@[simp] theorem failAttempt_resetHeld (b : Body) (p : Plan) : (failAttempt b p s).resetHeld = s.resetHeld := rfl
@[simp] theorem failAttempt_straps (b : Body) (p : Plan) : (failAttempt b p s).straps = s.straps := rfl
@[simp] theorem failAttempt_loader (b : Body) (p : Plan) : (failAttempt b p s).loader = s.loader := rfl
@[simp] theorem failAttempt_table (b : Body) (p : Plan) : (failAttempt b p s).table = s.table := rfl
@[simp] theorem failAttempt_fusion (b : Body) (p : Plan) : (failAttempt b p s).fusion = s.fusion := rfl
@[simp] theorem failAttempt_exc (b : Body) (p : Plan) : (failAttempt b p s).exc = s.exc := rfl
@[simp] theorem failAttempt_sensor (b : Body) (p : Plan) : (failAttempt b p s).sensor = s.sensor := rfl
@[simp] theorem failAttempt_detector (b : Body) (p : Plan) : (failAttempt b p s).detector = s.detector := rfl
@[simp] theorem failAttempt_outbound (b : Body) (p : Plan) : (failAttempt b p s).outbound = s.outbound := rfl
@[simp] theorem failAttempt_roster (b : Body) (p : Plan) : (failAttempt b p s).roster = s.roster := rfl
@[simp] theorem failAttempt_agree (b : Body) (p : Plan) : (failAttempt b p s).agree = s.agree := rfl
@[simp] theorem failAttempt_time (b : Body) (p : Plan) : (failAttempt b p s).time = s.time := rfl
@[simp] theorem failAttempt_warn (b : Body) (p : Plan) : (failAttempt b p s).warn = s.warn := rfl
@[simp] theorem failAttempt_freeCount (b : Body) (p : Plan) : (failAttempt b p s).freeCount = s.freeCount := rfl
@[simp] theorem failAttempt_pending (b : Body) (p : Plan) : (failAttempt b p s).pending = s.pending := rfl

@[simp] theorem dropFrame_mode (b : Body) (p : Plan) : (dropFrame b p s).mode = s.mode := rfl
@[simp] theorem dropFrame_resetHeld (b : Body) (p : Plan) : (dropFrame b p s).resetHeld = s.resetHeld := rfl
@[simp] theorem dropFrame_straps (b : Body) (p : Plan) : (dropFrame b p s).straps = s.straps := rfl
@[simp] theorem dropFrame_loader (b : Body) (p : Plan) : (dropFrame b p s).loader = s.loader := rfl
@[simp] theorem dropFrame_table (b : Body) (p : Plan) : (dropFrame b p s).table = s.table := rfl
@[simp] theorem dropFrame_fusion (b : Body) (p : Plan) : (dropFrame b p s).fusion = s.fusion := rfl
@[simp] theorem dropFrame_exc (b : Body) (p : Plan) : (dropFrame b p s).exc = s.exc := rfl
@[simp] theorem dropFrame_sensor (b : Body) (p : Plan) : (dropFrame b p s).sensor = s.sensor := rfl
@[simp] theorem dropFrame_detector (b : Body) (p : Plan) : (dropFrame b p s).detector = s.detector := rfl
@[simp] theorem dropFrame_roster (b : Body) (p : Plan) : (dropFrame b p s).roster = s.roster := rfl
@[simp] theorem dropFrame_agree (b : Body) (p : Plan) : (dropFrame b p s).agree = s.agree := rfl
@[simp] theorem dropFrame_time (b : Body) (p : Plan) : (dropFrame b p s).time = s.time := rfl
@[simp] theorem dropFrame_warn (b : Body) (p : Plan) : (dropFrame b p s).warn = s.warn := rfl
@[simp] theorem dropFrame_trace (b : Body) (p : Plan) : (dropFrame b p s).trace = s.trace := rfl
@[simp] theorem dropFrame_panel (b : Body) (p : Plan) : (dropFrame b p s).panel = s.panel := rfl
@[simp] theorem dropFrame_freeCount (b : Body) (p : Plan) : (dropFrame b p s).freeCount = s.freeCount := rfl
@[simp] theorem dropFrame_pending (b : Body) (p : Plan) : (dropFrame b p s).pending = s.pending := rfl

@[simp] theorem frameOut_mode (b : Body) (p : Plan) : (frameOut b p s).mode = s.mode := rfl
@[simp] theorem frameOut_resetHeld (b : Body) (p : Plan) : (frameOut b p s).resetHeld = s.resetHeld := rfl
@[simp] theorem frameOut_straps (b : Body) (p : Plan) : (frameOut b p s).straps = s.straps := rfl
@[simp] theorem frameOut_loader (b : Body) (p : Plan) : (frameOut b p s).loader = s.loader := rfl
@[simp] theorem frameOut_table (b : Body) (p : Plan) : (frameOut b p s).table = s.table := rfl
@[simp] theorem frameOut_fusion (b : Body) (p : Plan) : (frameOut b p s).fusion = s.fusion := rfl
@[simp] theorem frameOut_exc (b : Body) (p : Plan) : (frameOut b p s).exc = s.exc := rfl
@[simp] theorem frameOut_sensor (b : Body) (p : Plan) : (frameOut b p s).sensor = s.sensor := rfl
@[simp] theorem frameOut_detector (b : Body) (p : Plan) : (frameOut b p s).detector = s.detector := rfl
@[simp] theorem frameOut_outbound (b : Body) (p : Plan) : (frameOut b p s).outbound = s.outbound := rfl
@[simp] theorem frameOut_roster (b : Body) (p : Plan) : (frameOut b p s).roster = s.roster := rfl
@[simp] theorem frameOut_agree (b : Body) (p : Plan) : (frameOut b p s).agree = s.agree := rfl
@[simp] theorem frameOut_time (b : Body) (p : Plan) : (frameOut b p s).time = s.time := rfl
@[simp] theorem frameOut_warn (b : Body) (p : Plan) : (frameOut b p s).warn = s.warn := rfl
@[simp] theorem frameOut_counters (b : Body) (p : Plan) : (frameOut b p s).counters = s.counters := rfl
@[simp] theorem frameOut_freeCount (b : Body) (p : Plan) : (frameOut b p s).freeCount = s.freeCount := rfl
@[simp] theorem frameOut_pending (b : Body) (p : Plan) : (frameOut b p s).pending = s.pending := rfl

@[simp] theorem transferSent_mode (p : Plan) : (transferSent p s).mode = s.mode := by unfold transferSent; split <;> rfl
@[simp] theorem transferSent_resetHeld (p : Plan) : (transferSent p s).resetHeld = s.resetHeld := by unfold transferSent; split <;> rfl
@[simp] theorem transferSent_straps (p : Plan) : (transferSent p s).straps = s.straps := by unfold transferSent; split <;> rfl
@[simp] theorem transferSent_loader (p : Plan) : (transferSent p s).loader = s.loader := by unfold transferSent; split <;> rfl
@[simp] theorem transferSent_table (p : Plan) : (transferSent p s).table = s.table := by unfold transferSent; split <;> rfl
@[simp] theorem transferSent_fusion (p : Plan) : (transferSent p s).fusion = s.fusion := by unfold transferSent; split <;> rfl
@[simp] theorem transferSent_exc (p : Plan) : (transferSent p s).exc = s.exc := by unfold transferSent; split <;> rfl
@[simp] theorem transferSent_sensor (p : Plan) : (transferSent p s).sensor = s.sensor := by unfold transferSent; split <;> rfl
@[simp] theorem transferSent_detector (p : Plan) : (transferSent p s).detector = s.detector := by unfold transferSent; split <;> rfl
@[simp] theorem transferSent_outbound (p : Plan) : (transferSent p s).outbound = s.outbound := by unfold transferSent; split <;> rfl
@[simp] theorem transferSent_line (p : Plan) : (transferSent p s).line = s.line := by unfold transferSent; split <;> rfl
@[simp] theorem transferSent_roster (p : Plan) : (transferSent p s).roster = s.roster := by unfold transferSent; split <;> rfl
@[simp] theorem transferSent_agree (p : Plan) : (transferSent p s).agree = s.agree := by unfold transferSent; split <;> rfl
@[simp] theorem transferSent_time (p : Plan) : (transferSent p s).time = s.time := by unfold transferSent; split <;> rfl
@[simp] theorem transferSent_warn (p : Plan) : (transferSent p s).warn = s.warn := by unfold transferSent; split <;> rfl
@[simp] theorem transferSent_freeCount (p : Plan) : (transferSent p s).freeCount = s.freeCount := by unfold transferSent; split <;> rfl
@[simp] theorem transferSent_pending (p : Plan) : (transferSent p s).pending = s.pending := by unfold transferSent; split <;> rfl

@[simp] theorem takeOwn_mode (b : Body) (p : Plan) : (takeOwn b p s).mode = s.mode := by unfold takeOwn; split <;> simp
@[simp] theorem takeOwn_resetHeld (b : Body) (p : Plan) : (takeOwn b p s).resetHeld = s.resetHeld := by unfold takeOwn; split <;> simp
@[simp] theorem takeOwn_straps (b : Body) (p : Plan) : (takeOwn b p s).straps = s.straps := by unfold takeOwn; split <;> simp
@[simp] theorem takeOwn_loader (b : Body) (p : Plan) : (takeOwn b p s).loader = s.loader := by unfold takeOwn; split <;> simp
@[simp] theorem takeOwn_table (b : Body) (p : Plan) : (takeOwn b p s).table = s.table := by unfold takeOwn; split <;> simp
@[simp] theorem takeOwn_exc (b : Body) (p : Plan) : (takeOwn b p s).exc = s.exc := by unfold takeOwn; split <;> simp
@[simp] theorem takeOwn_sensor (b : Body) (p : Plan) : (takeOwn b p s).sensor = s.sensor := by unfold takeOwn; split <;> simp
@[simp] theorem takeOwn_detector (b : Body) (p : Plan) : (takeOwn b p s).detector = s.detector := by unfold takeOwn; split <;> simp
@[simp] theorem takeOwn_line (b : Body) (p : Plan) : (takeOwn b p s).line = s.line := by unfold takeOwn; split <;> simp
@[simp] theorem takeOwn_agree (b : Body) (p : Plan) : (takeOwn b p s).agree = s.agree := by unfold takeOwn; split <;> simp
@[simp] theorem takeOwn_time (b : Body) (p : Plan) : (takeOwn b p s).time = s.time := by unfold takeOwn; split <;> simp
@[simp] theorem takeOwn_warn (b : Body) (p : Plan) : (takeOwn b p s).warn = s.warn := by unfold takeOwn; split <;> simp
@[simp] theorem takeOwn_freeCount (b : Body) (p : Plan) : (takeOwn b p s).freeCount = s.freeCount := by unfold takeOwn; split <;> simp
@[simp] theorem takeOwn_pending (b : Body) (p : Plan) : (takeOwn b p s).pending = s.pending := by unfold takeOwn; split <;> simp

@[simp] theorem noteTaken_mode (args : List Byte) : (noteTaken args s).mode = s.mode := rfl
@[simp] theorem noteTaken_resetHeld (args : List Byte) : (noteTaken args s).resetHeld = s.resetHeld := rfl
@[simp] theorem noteTaken_straps (args : List Byte) : (noteTaken args s).straps = s.straps := rfl
@[simp] theorem noteTaken_loader (args : List Byte) : (noteTaken args s).loader = s.loader := rfl
@[simp] theorem noteTaken_table (args : List Byte) : (noteTaken args s).table = s.table := rfl
@[simp] theorem noteTaken_fusion (args : List Byte) : (noteTaken args s).fusion = s.fusion := rfl
@[simp] theorem noteTaken_exc (args : List Byte) : (noteTaken args s).exc = s.exc := rfl
@[simp] theorem noteTaken_sensor (args : List Byte) : (noteTaken args s).sensor = s.sensor := rfl
@[simp] theorem noteTaken_detector (args : List Byte) : (noteTaken args s).detector = s.detector := rfl
@[simp] theorem noteTaken_outbound (args : List Byte) : (noteTaken args s).outbound = s.outbound := rfl
@[simp] theorem noteTaken_line (args : List Byte) : (noteTaken args s).line = s.line := rfl
@[simp] theorem noteTaken_roster (args : List Byte) : (noteTaken args s).roster = s.roster := rfl
@[simp] theorem noteTaken_agree (args : List Byte) : (noteTaken args s).agree = s.agree := rfl
@[simp] theorem noteTaken_time (args : List Byte) : (noteTaken args s).time = s.time := rfl
@[simp] theorem noteTaken_warn (args : List Byte) : (noteTaken args s).warn = s.warn := rfl
@[simp] theorem noteTaken_trace (args : List Byte) : (noteTaken args s).trace = s.trace := rfl
@[simp] theorem noteTaken_counters (args : List Byte) : (noteTaken args s).counters = s.counters := rfl
@[simp] theorem noteTaken_freeCount (args : List Byte) : (noteTaken args s).freeCount = s.freeCount := rfl
@[simp] theorem noteTaken_pending (args : List Byte) : (noteTaken args s).pending = s.pending := rfl

@[simp] theorem respond_mode (r : List Byte) : (respond r s).mode = s.mode := rfl
@[simp] theorem respond_resetHeld (r : List Byte) : (respond r s).resetHeld = s.resetHeld := rfl
@[simp] theorem respond_straps (r : List Byte) : (respond r s).straps = s.straps := rfl
@[simp] theorem respond_loader (r : List Byte) : (respond r s).loader = s.loader := rfl
@[simp] theorem respond_table (r : List Byte) : (respond r s).table = s.table := rfl
@[simp] theorem respond_fusion (r : List Byte) : (respond r s).fusion = s.fusion := rfl
@[simp] theorem respond_exc (r : List Byte) : (respond r s).exc = s.exc := rfl
@[simp] theorem respond_sensor (r : List Byte) : (respond r s).sensor = s.sensor := rfl
@[simp] theorem respond_detector (r : List Byte) : (respond r s).detector = s.detector := rfl
@[simp] theorem respond_outbound (r : List Byte) : (respond r s).outbound = s.outbound := rfl
@[simp] theorem respond_line (r : List Byte) : (respond r s).line = s.line := rfl
@[simp] theorem respond_roster (r : List Byte) : (respond r s).roster = s.roster := rfl
@[simp] theorem respond_agree (r : List Byte) : (respond r s).agree = s.agree := rfl
@[simp] theorem respond_time (r : List Byte) : (respond r s).time = s.time := rfl
@[simp] theorem respond_warn (r : List Byte) : (respond r s).warn = s.warn := rfl
@[simp] theorem respond_trace (r : List Byte) : (respond r s).trace = s.trace := rfl
@[simp] theorem respond_counters (r : List Byte) : (respond r s).counters = s.counters := rfl
@[simp] theorem respond_freeCount (r : List Byte) : (respond r s).freeCount = s.freeCount := rfl
@[simp] theorem respond_pending (r : List Byte) : (respond r s).pending = s.pending := rfl

@[simp] theorem answerOk_mode (data : List Byte) : (answerOk data s).mode = s.mode := rfl
@[simp] theorem answerOk_resetHeld (data : List Byte) : (answerOk data s).resetHeld = s.resetHeld := rfl
@[simp] theorem answerOk_straps (data : List Byte) : (answerOk data s).straps = s.straps := rfl
@[simp] theorem answerOk_loader (data : List Byte) : (answerOk data s).loader = s.loader := rfl
@[simp] theorem answerOk_table (data : List Byte) : (answerOk data s).table = s.table := rfl
@[simp] theorem answerOk_fusion (data : List Byte) : (answerOk data s).fusion = s.fusion := rfl
@[simp] theorem answerOk_exc (data : List Byte) : (answerOk data s).exc = s.exc := rfl
@[simp] theorem answerOk_sensor (data : List Byte) : (answerOk data s).sensor = s.sensor := rfl
@[simp] theorem answerOk_detector (data : List Byte) : (answerOk data s).detector = s.detector := rfl
@[simp] theorem answerOk_outbound (data : List Byte) : (answerOk data s).outbound = s.outbound := rfl
@[simp] theorem answerOk_line (data : List Byte) : (answerOk data s).line = s.line := rfl
@[simp] theorem answerOk_roster (data : List Byte) : (answerOk data s).roster = s.roster := rfl
@[simp] theorem answerOk_agree (data : List Byte) : (answerOk data s).agree = s.agree := rfl
@[simp] theorem answerOk_time (data : List Byte) : (answerOk data s).time = s.time := rfl
@[simp] theorem answerOk_warn (data : List Byte) : (answerOk data s).warn = s.warn := rfl
@[simp] theorem answerOk_trace (data : List Byte) : (answerOk data s).trace = s.trace := rfl
@[simp] theorem answerOk_counters (data : List Byte) : (answerOk data s).counters = s.counters := rfl
@[simp] theorem answerOk_freeCount (data : List Byte) : (answerOk data s).freeCount = s.freeCount := rfl
@[simp] theorem answerOk_pending (data : List Byte) : (answerOk data s).pending = s.pending := rfl

@[simp] theorem answerRejected_mode : (answerRejected s).mode = s.mode := rfl
@[simp] theorem answerRejected_resetHeld : (answerRejected s).resetHeld = s.resetHeld := rfl
@[simp] theorem answerRejected_straps : (answerRejected s).straps = s.straps := rfl
@[simp] theorem answerRejected_loader : (answerRejected s).loader = s.loader := rfl
@[simp] theorem answerRejected_table : (answerRejected s).table = s.table := rfl
@[simp] theorem answerRejected_fusion : (answerRejected s).fusion = s.fusion := rfl
@[simp] theorem answerRejected_exc : (answerRejected s).exc = s.exc := rfl
@[simp] theorem answerRejected_sensor : (answerRejected s).sensor = s.sensor := rfl
@[simp] theorem answerRejected_detector : (answerRejected s).detector = s.detector := rfl
@[simp] theorem answerRejected_outbound : (answerRejected s).outbound = s.outbound := rfl
@[simp] theorem answerRejected_line : (answerRejected s).line = s.line := rfl
@[simp] theorem answerRejected_roster : (answerRejected s).roster = s.roster := rfl
@[simp] theorem answerRejected_agree : (answerRejected s).agree = s.agree := rfl
@[simp] theorem answerRejected_time : (answerRejected s).time = s.time := rfl
@[simp] theorem answerRejected_warn : (answerRejected s).warn = s.warn := rfl
@[simp] theorem answerRejected_trace : (answerRejected s).trace = s.trace := rfl
@[simp] theorem answerRejected_counters : (answerRejected s).counters = s.counters := rfl
@[simp] theorem answerRejected_freeCount : (answerRejected s).freeCount = s.freeCount := rfl
@[simp] theorem answerRejected_pending : (answerRejected s).pending = s.pending := rfl

@[simp] theorem warmValues_mode : (warmValues s).mode = s.mode := rfl
@[simp] theorem warmValues_resetHeld : (warmValues s).resetHeld = s.resetHeld := rfl
@[simp] theorem warmValues_straps : (warmValues s).straps = s.straps := rfl
@[simp] theorem warmValues_loader : (warmValues s).loader = s.loader := rfl
@[simp] theorem warmValues_table : (warmValues s).table = s.table := rfl
@[simp] theorem warmValues_fusion : (warmValues s).fusion = s.fusion := rfl
@[simp] theorem warmValues_exc : (warmValues s).exc = s.exc := rfl
@[simp] theorem warmValues_sensor : (warmValues s).sensor = s.sensor := rfl
@[simp] theorem warmValues_detector : (warmValues s).detector = s.detector := rfl
@[simp] theorem warmValues_outbound : (warmValues s).outbound = s.outbound := rfl
@[simp] theorem warmValues_line : (warmValues s).line = s.line := rfl
@[simp] theorem warmValues_roster : (warmValues s).roster = s.roster := rfl
@[simp] theorem warmValues_agree : (warmValues s).agree = s.agree := rfl
@[simp] theorem warmValues_warn : (warmValues s).warn = s.warn := rfl
@[simp] theorem warmValues_freeCount : (warmValues s).freeCount = s.freeCount := rfl
@[simp] theorem warmValues_pending : (warmValues s).pending = s.pending := rfl

/-! ### The fields that a plain update writes -/

@[simp] theorem raiseIf_panel (b : Bool) (e : StatusEvent) :
    (raiseIf b e s).panel = { s.panel with events := withEvent b e s.panel.events } := rfl
@[simp] theorem raiseEvent_panel (e : StatusEvent) :
    (raiseEvent e s).panel = { s.panel with events := s.panel.events ||| e.mask } := rfl
@[simp] theorem offer_trace (k : TraceKind) (src : Option Station) (fr : Option FrameKind) (d : Detail) :
    (offer k src fr d s).trace = s.trace.offer (s.entryFor k src fr d) := rfl
theorem offer_panel (k : TraceKind) (src : Option Station) (fr : Option FrameKind) (d : Detail) :
    (offer k src fr d s).panel
      = { s.panel with events := withEvent (s.trace.freezes (s.entryFor k src fr d)) .traceFrozen s.panel.events } := rfl
theorem withZones_warn (zones : List Zone) :
    (withZones zones s).warn = { s.warn with
      zones := zones, gens := if s.mode = .lull then s.warn.gens else refreshGens zones s.warn.gens } := rfl
@[simp] theorem withZones_zones (zones : List Zone) : (withZones zones s).warn.zones = zones := rfl
theorem evaluate_zones : (evaluate s).warn.zones
    = s.warn.zones.map (fun r => applyLevel s.profile.holdT (s.computed r.zone) r) := rfl
theorem evaluate_gens : (evaluate s).warn.gens
    = if s.mode = .lull then s.warn.gens else refreshGens (evaluate s).warn.zones s.warn.gens := rfl
theorem evaluate_panel : (evaluate s).panel = { s.panel with
    events := withEvent (s.warn.zones.any (fun r => raisesLoud (s.computed r.zone) r)) .zoneRaised s.panel.events } := rfl
@[simp] theorem adopt_time (t : Tick) :
    (adopt t s).time = { s.time with yardClock := t, firstAdoption := false } := rfl
@[simp] theorem wakeAfter_mode (d : Nat) (atOpen : Bool) : (wakeAfter d atOpen s).mode = .active := rfl
@[simp] theorem wakeAfter_line (d : Nat) (atOpen : Bool) : (wakeAfter d atOpen s).line = { s.line with
    wakePending := true
    rx := .quietWait false
    openTimer := if atOpen then .held else s.line.openTimer.awakened s.time.rate d } := rfl
@[simp] theorem wakeAfter_warn (d : Nat) (atOpen : Bool) :
    (wakeAfter d atOpen s).warn = { s.warn with gens := resumeGens s.warn.zones s.warn.gens } := rfl
@[simp] theorem wakeAfter_time (d : Nat) (atOpen : Bool) : (wakeAfter d atOpen s).time = { s.time with
    wake := none
    acc := 0
    capAcc := 0
    capture := s.time.capture + BitVec.ofNat 32 ((s.time.capAcc + 5000 * d) / s.time.rate) } := rfl
@[simp] theorem enterLull_mode (b : Nat) : (enterLull b s).mode = .lull := rfl
@[simp] theorem enterLull_time (b : Nat) : (enterLull b s).time = { s.time with
    calibLeft := none
    wake := some ⟨wakeCount s.profile s.time.rate, 0, 0⟩
    acc := 0
    capAcc := 0
    capture := s.time.capture + BitVec.ofNat 32 b } := rfl
@[simp] theorem enterLull_line (b : Nat) : (enterLull b s).line = { s.line with
    rx := .off, openTimer := .lull (s.remainingMs b * s.time.rate / 500), openFresh := false } := rfl
@[simp] theorem enterLull_warn (b : Nat) :
    (enterLull b s).warn = { s.warn with gens := s.warn.gens.map (fun _ => Gen.stopped) } := rfl
@[simp] theorem hear_roster (i : Station) : (hear i s).roster = s.roster.hear i := rfl
@[simp] theorem recordPresence_roster (i : Station) (p : Presence) :
    (recordPresence i p s).roster = s.roster.record i p s.line.cycle s.profileDigest := rfl
@[simp] theorem closeCycle_roster : (closeCycle s).roster = s.roster.close s.own := rfl
@[simp] theorem ignoreTransfer_counters :
    (ignoreTransfer s).counters = { s.counters with transfersIgnored := satInc s.counters.transfersIgnored } := rfl
@[simp] theorem discardStaging_agree (r : DiscardReason) :
    (discardStaging r s).agree = { s.agree with staging := Staging.cleared true } := rfl
@[simp] theorem discardStaging_counters (r : DiscardReason) : (discardStaging r s).counters
    = { s.counters with transfersDiscarded := satInc s.counters.transfersDiscarded } := rfl
@[simp] theorem clearDiscarded_agree : (clearDiscarded s).agree
    = { s.agree with staging := { s.agree.staging with discarded := false } } := rfl
@[simp] theorem startWaiting_fusion : (startWaiting s).fusion
    = { s.fusion with fusing := s.fusion.waiting, waiting := none, stopping := false } := rfl
@[simp] theorem dropHead_fusion (l : Label) : (dropHead l s).fusion
    = { s.fusion with fusing := some { l with sightings := l.sightings.drop 1 } } := rfl
@[simp] theorem closingStep_table (l : Label) : (closingStep l s).table = agedTable s.profile s.table l := rfl
@[simp] theorem closingStep_fusion (l : Label) : (closingStep l s).fusion = { s.fusion with fusing := none } := rfl
@[simp] theorem closingStep_agree (l : Label) : (closingStep l s).agree = { s.agree with
    history := storePair s.agree.history l.number
      (tableDigest (agedTable s.profile s.table l).slots s.table.nextId) } := rfl
@[simp] theorem beginOpportunity_line (k : Nat) : (beginOpportunity k s).line
    = { s.line with opp := .number k, silence := true, oppFrames := false, plan := none } := rfl
@[simp] theorem endCycle_line : (endCycle s).line = { s.line with
    opp := .ended, silence := false, oppFrames := false, plan := none
    openTimer := if s.mode.opensCycle then .ms s.cycleEndDelay 0 else .stopped
    openFresh := true } := rfl
@[simp] theorem restartSilence_line :
    (restartSilence s).line = { s.line with silence := s.line.opp.isNumber } := rfl
@[simp] theorem markLine_mode (m : MarkBody) : (markLine m s).mode = s.mode.afterMark := rfl
@[simp] theorem abandonPlan_line : (abandonPlan s).line = { s.line with plan := none } := rfl
@[simp] theorem lineIdle_line : (lineIdle s).line = { s.line with
    rx := .idle
    openTimer := if s.awaitsFrameEnd && s.mode != .mute then s.backoffTimer else s.line.openTimer } := rfl
@[simp] theorem frameIn_counters (src : Station) (b : Body) :
    (frameIn src b s).counters = { s.counters with framesTaken := satInc s.counters.framesTaken } := rfl
@[simp] theorem enterResync_mode (src : Station) (b : Body) : (enterResync src b s).mode = .resync := rfl
@[simp] theorem frameOut_line (b : Body) (p : Plan) :
    (frameOut b p s).line = { s.line with tx := none, rx := .idle, plan := p.next } := rfl
@[simp] theorem sendMark_line : (sendMark s).line
    = { s.line with openTimer := .stopped, zeroCadence := none, tx := some ⟨.mark s.ownMark, false⟩ } := rfl
@[simp] theorem noteTaken_panel (args : List Byte) :
    (noteTaken args s).panel = { s.panel with incoming := some (args.length + 2) } := rfl
@[simp] theorem respond_panel (r : List Byte) : (respond r s).panel = { s.panel with response := r } := rfl
@[simp] theorem answerOk_panel (data : List Byte) :
    (answerOk data s).panel = { s.panel with response := resultOk :: data } := rfl
@[simp] theorem answerRejected_panel :
    (answerRejected s).panel = { s.panel with response := [resultRejected] } := rfl

end Sys2Proof.Machine
end

