-- ==== Sys2Proof/Laws/Ops.lean ====
section
/-! SUPPORT. What the shared operations can do, each said once: the test of LULL entry, the estimator's reports, the
trace ring, the digest history, and the steps built from them. -/

namespace Sys2Proof.Machine

/-! ## The test of LULL entry -/

theorem lullReady_of_mode {s : State} (h : s.mode ≠ .active) : s.lullReady = false := by simp [State.lullReady, h]

theorem lullReady_of_opp {s : State} (h : s.line.opp ≠ .ended) : s.lullReady = false := by simp [State.lullReady, h]

theorem lullReady_of_fusing {s : State} (h : s.fusion.fusing.isSome = true) : s.lullReady = false := by
  cases hf : s.fusion.fusing <;> simp_all [State.lullReady, State.fusionIdle]

theorem lullReady_of_detector {s : State} (h : s.detector.state ≠ .calm) : s.lullReady = false := by
  simp [State.lullReady, h]

theorem lullReady_of_outbound {s : State} (h : s.outbound ≠ []) : s.lullReady = false := by
  simp [State.lullReady, h]

/-- Where LULL is not entered, the test clears the model's own mark and nothing else. -/
theorem finishAt_of_not_ready {b : Nat} {s : State} (h : s.lullReady = false) :
    finishAt b s = { s with line := { s.line with openFresh := false } } := by simp [finishAt, h]

theorem finishAt_of_ready {b : Nat} {s : State} (h : s.lullReady = true) : finishAt b s = enterLull b s := by
  simp [finishAt, h]

/-- The LULL test changes the mode, the time, the line, the generators and the count of free values alone. -/
theorem finishAt_frame (b : Nat) (s : State) :
    finishAt b s = { s with
      mode := (finishAt b s).mode, time := (finishAt b s).time, line := (finishAt b s).line, warn := (finishAt b s).warn
      freeCount := (finishAt b s).freeCount } := by
  unfold finishAt; split <;> rfl

theorem finish_of_not_ready {s : State} (h : s.lullReady = false) :
    finish s = { s with line := { s.line with openFresh := false } } := finishAt_of_not_ready h

theorem finish_of_ready {s : State} (h : s.lullReady = true) : finish s = enterLull s.capturePhase s :=
  finishAt_of_ready h

theorem finishAtTick_of_not_ready {s : State} (h : s.lullReady = false) :
    finishAtTick s = { s with line := { s.line with openFresh := false } } := finishAt_of_not_ready h

theorem finishAtTick_of_ready {s : State} (h : s.lullReady = true) : finishAtTick s = enterLull s.edgeOffset s :=
  finishAt_of_ready h

/-- LULL is entered from ACTIVE alone. -/
theorem finishAt_mode (b : Nat) (s : State) :
    (finishAt b s).mode = s.mode ∨ s.mode = .active ∧ (finishAt b s).mode = .lull := by
  cases h : s.lullReady
  · exact .inl (by rw [finishAt_of_not_ready h])
  · refine .inr ⟨?_, by rw [finishAt_of_ready h]; rfl⟩
    simp [State.lullReady] at h
    tauto

theorem finish_mode (s : State) : (finish s).mode = s.mode ∨ s.mode = .active ∧ (finish s).mode = .lull :=
  finishAt_mode _ s

theorem finishAtTick_mode (s : State) :
    (finishAtTick s).mode = s.mode ∨ s.mode = .active ∧ (finishAtTick s).mode = .lull := finishAt_mode _ s

/-- The line after the test: the receiver, the open timer and the model's own mark may have changed. -/
theorem finishAt_line (b : Nat) (s : State) : (finishAt b s).line = { s.line with
    rx := (finishAt b s).line.rx, openTimer := (finishAt b s).line.openTimer, openFresh := false } := by
  cases h : s.lullReady
  · rw [finishAt_of_not_ready h]
  · rw [finishAt_of_ready h]; rfl

theorem finish_line (s : State) : (finish s).line
    = { s.line with rx := (finish s).line.rx, openTimer := (finish s).line.openTimer, openFresh := false } :=
  finishAt_line _ s

theorem finishAtTick_line (s : State) : (finishAtTick s).line = { s.line with
    rx := (finishAtTick s).line.rx, openTimer := (finishAtTick s).line.openTimer, openFresh := false } :=
  finishAt_line _ s

theorem finishAt_zones (b : Nat) (s : State) : (finishAt b s).warn.zones = s.warn.zones := by
  unfold finishAt; split <;> rfl

theorem finish_zones (s : State) : (finish s).warn.zones = s.warn.zones := finishAt_zones _ s

theorem finishAtTick_zones (s : State) : (finishAtTick s).warn.zones = s.warn.zones := finishAt_zones _ s

/-- After the test the station does not wait to enter LULL: it has, or a condition does not hold (R156). -/
theorem finishAt_lullReady (b : Nat) (s : State) : (finishAt b s).lullReady = false := by
  cases h : s.lullReady
  · rw [finishAt_of_not_ready h]; simpa [State.lullReady, State.fusionIdle, State.profile] using h
  · rw [finishAt_of_ready h]; simp [State.lullReady]

theorem finish_lullReady (s : State) : (finish s).lullReady = false := finishAt_lullReady _ s

theorem finishAtTick_lullReady (s : State) : (finishAtTick s).lullReady = false := finishAt_lullReady _ s

/-- A free value brought into a range that is not empty lies in it. -/
theorem inRange_mem {lo hi : Nat} (x : Nat) (h : lo < hi) : lo ≤ inRange lo hi x ∧ inRange lo hi x < hi := by
  have := Nat.mod_lt x (Nat.sub_pos_of_lt h)
  simp only [inRange, h, if_true]
  omega

/-- An edge since the last tick gives the units to it (R158). -/
theorem edgeOffset_of_edge {s : State} {a : Tick} (ha : s.sensor.lastAccepted = some a)
    (h : captureDiff a s.time.capture ≤ 101) : s.edgeOffset = captureDiff a s.time.capture := by
  simp only [State.edgeOffset, ha, h, if_true]

/-- No edge since the last tick gives none. -/
theorem edgeOffset_of_none {s : State}
    (h : ∀ a, s.sensor.lastAccepted = some a → 101 < captureDiff a s.time.capture) : s.edgeOffset = 0 := by
  unfold State.edgeOffset
  split
  · rename_i a ha
    exact if_neg (Nat.not_le.mpr (h a ha))
  · rfl

/-- The capture phase is not before the last accepted edge, and below the units of a tick where that edge is (R158). -/
theorem capturePhase_bounds (s : State) :
    s.edgeOffset ≤ s.capturePhase ∧ (s.edgeOffset < 100 → s.capturePhase < 100) := by
  by_cases h : s.edgeOffset < 100
  · exact ⟨(inRange_mem _ h).1, fun _ => (inRange_mem _ h).2⟩
  · exact ⟨by simp [State.capturePhase, inRange, h], fun hh => absurd hh h⟩

/-- The bounds that the ticks counted leave to the ms an open timer has run (R155). -/
theorem elapsedMs_bounds (k b x : Nat) : 10 * k ≤ elapsedMs k b x + 9 ∧ elapsedMs k b x < 10 * (k + 1) := by
  unfold elapsedMs; omega

/-! ## Reports of the Estimator -/

/-- The counters with the five disabled counters of another record (R58). -/
def Counters.withDisabled (c d : Counters) : Counters :=
  { c with
    disabledUnset := d.disabledUnset
    disabledZero := d.disabledZero
    disabledCeiling := d.disabledCeiling
    disabledFloor := d.disabledFloor
    disabledHorizon := d.disabledHorizon }

/-- A report changes the exception record, the disabled counters and the pending events, and nothing else. -/
theorem report_frame (ctx : ExcContext) (s : State) (x : ExcReport) : report ctx s x = { s with
    exc := (report ctx s x).exc
    counters := s.counters.withDisabled (report ctx s x).counters
    panel := { s.panel with events := (report ctx s x).panel.events } } := by
  unfold report
  split
  · rfl
  · cases x.code <;> rfl

/-- So do reports in a row. -/
theorem reportAll_frame (ctx : ExcContext) (xs : List ExcReport) (s : State) : reportAll ctx xs s = { s with
    exc := (reportAll ctx xs s).exc
    counters := s.counters.withDisabled (reportAll ctx xs s).counters
    panel := { s.panel with events := (reportAll ctx xs s).panel.events } } := by
  induction xs generalizing s with
  | nil => rfl
  | cons x xs ih =>
    have h := ih (report ctx s x)
    have h1 := report_frame ctx s x
    simp only [reportAll, List.foldl_cons] at h ⊢
    rw [h]
    rw [h1]
    rfl

@[simp] theorem report_mode (ctx : ExcContext) (s : State) (x : ExcReport) : (report ctx s x).mode = s.mode := rfl
@[simp] theorem report_resetHeld (ctx : ExcContext) (s : State) (x : ExcReport) : (report ctx s x).resetHeld = s.resetHeld := rfl
@[simp] theorem report_straps (ctx : ExcContext) (s : State) (x : ExcReport) : (report ctx s x).straps = s.straps := rfl
@[simp] theorem report_loader (ctx : ExcContext) (s : State) (x : ExcReport) : (report ctx s x).loader = s.loader := rfl
@[simp] theorem report_table (ctx : ExcContext) (s : State) (x : ExcReport) : (report ctx s x).table = s.table := rfl
@[simp] theorem report_fusion (ctx : ExcContext) (s : State) (x : ExcReport) : (report ctx s x).fusion = s.fusion := rfl
@[simp] theorem report_sensor (ctx : ExcContext) (s : State) (x : ExcReport) : (report ctx s x).sensor = s.sensor := rfl
@[simp] theorem report_detector (ctx : ExcContext) (s : State) (x : ExcReport) : (report ctx s x).detector = s.detector := rfl
@[simp] theorem report_outbound (ctx : ExcContext) (s : State) (x : ExcReport) : (report ctx s x).outbound = s.outbound := rfl
@[simp] theorem report_line (ctx : ExcContext) (s : State) (x : ExcReport) : (report ctx s x).line = s.line := rfl
@[simp] theorem report_roster (ctx : ExcContext) (s : State) (x : ExcReport) : (report ctx s x).roster = s.roster := rfl
@[simp] theorem report_agree (ctx : ExcContext) (s : State) (x : ExcReport) : (report ctx s x).agree = s.agree := rfl
@[simp] theorem report_time (ctx : ExcContext) (s : State) (x : ExcReport) : (report ctx s x).time = s.time := rfl
@[simp] theorem report_warn (ctx : ExcContext) (s : State) (x : ExcReport) : (report ctx s x).warn = s.warn := rfl
@[simp] theorem report_trace (ctx : ExcContext) (s : State) (x : ExcReport) : (report ctx s x).trace = s.trace := rfl
@[simp] theorem report_freeCount (ctx : ExcContext) (s : State) (x : ExcReport) : (report ctx s x).freeCount = s.freeCount := rfl
@[simp] theorem report_pending (ctx : ExcContext) (s : State) (x : ExcReport) : (report ctx s x).pending = s.pending := rfl
@[simp] theorem reportAll_mode (ctx : ExcContext) (xs : List ExcReport) (s : State) :
    (reportAll ctx xs s).mode = s.mode := by rw [reportAll_frame]
@[simp] theorem reportAll_resetHeld (ctx : ExcContext) (xs : List ExcReport) (s : State) :
    (reportAll ctx xs s).resetHeld = s.resetHeld := by rw [reportAll_frame]
@[simp] theorem reportAll_straps (ctx : ExcContext) (xs : List ExcReport) (s : State) :
    (reportAll ctx xs s).straps = s.straps := by rw [reportAll_frame]
@[simp] theorem reportAll_loader (ctx : ExcContext) (xs : List ExcReport) (s : State) :
    (reportAll ctx xs s).loader = s.loader := by rw [reportAll_frame]
@[simp] theorem reportAll_table (ctx : ExcContext) (xs : List ExcReport) (s : State) :
    (reportAll ctx xs s).table = s.table := by rw [reportAll_frame]
@[simp] theorem reportAll_fusion (ctx : ExcContext) (xs : List ExcReport) (s : State) :
    (reportAll ctx xs s).fusion = s.fusion := by rw [reportAll_frame]
@[simp] theorem reportAll_sensor (ctx : ExcContext) (xs : List ExcReport) (s : State) :
    (reportAll ctx xs s).sensor = s.sensor := by rw [reportAll_frame]
@[simp] theorem reportAll_detector (ctx : ExcContext) (xs : List ExcReport) (s : State) :
    (reportAll ctx xs s).detector = s.detector := by rw [reportAll_frame]
@[simp] theorem reportAll_outbound (ctx : ExcContext) (xs : List ExcReport) (s : State) :
    (reportAll ctx xs s).outbound = s.outbound := by rw [reportAll_frame]
@[simp] theorem reportAll_line (ctx : ExcContext) (xs : List ExcReport) (s : State) :
    (reportAll ctx xs s).line = s.line := by rw [reportAll_frame]
@[simp] theorem reportAll_roster (ctx : ExcContext) (xs : List ExcReport) (s : State) :
    (reportAll ctx xs s).roster = s.roster := by rw [reportAll_frame]
@[simp] theorem reportAll_agree (ctx : ExcContext) (xs : List ExcReport) (s : State) :
    (reportAll ctx xs s).agree = s.agree := by rw [reportAll_frame]
@[simp] theorem reportAll_time (ctx : ExcContext) (xs : List ExcReport) (s : State) :
    (reportAll ctx xs s).time = s.time := by rw [reportAll_frame]
@[simp] theorem reportAll_warn (ctx : ExcContext) (xs : List ExcReport) (s : State) :
    (reportAll ctx xs s).warn = s.warn := by rw [reportAll_frame]
@[simp] theorem reportAll_trace (ctx : ExcContext) (xs : List ExcReport) (s : State) :
    (reportAll ctx xs s).trace = s.trace := by rw [reportAll_frame]
@[simp] theorem reportAll_freeCount (ctx : ExcContext) (xs : List ExcReport) (s : State) :
    (reportAll ctx xs s).freeCount = s.freeCount := by rw [reportAll_frame]
@[simp] theorem reportAll_pending (ctx : ExcContext) (xs : List ExcReport) (s : State) :
    (reportAll ctx xs s).pending = s.pending := by rw [reportAll_frame]

/-- The bearing reports of an ONSET change what reports change. -/
theorem reportBearings_frame (g : Sighting) (label : Word16) (xs : List (Nat × Byte)) (s : State) :
    xs.foldl (reportBearing g label) s = { s with
      exc := (xs.foldl (reportBearing g label) s).exc
      counters := s.counters.withDisabled (xs.foldl (reportBearing g label) s).counters
      panel := { s.panel with events := (xs.foldl (reportBearing g label) s).panel.events } } := by
  induction xs generalizing s with
  | nil => rfl
  | cons x xs ih =>
    have h := ih (reportBearing g label s x)
    have h1 := report_frame ⟨x.2, x.1, some (g.source, g.sid), label⟩ s ⟨.unsetOperand, 1⟩
    simp only [List.foldl_cons] at h ⊢
    rw [h]
    simp only [reportBearing]
    rw [h1]
    rfl

/-- A slot written in a sighting step: the table, and what reports change. -/
theorem writeSlot_frame (g : Sighting) (label : Word16) (i : Nat) (r : Front × List ExcReport) (s : State) :
    writeSlot g label i r s = { s with
      table := { s.table with slots := s.table.slots.set i r.1 }
      exc := (writeSlot g label i r s).exc
      counters := s.counters.withDisabled (writeSlot g label i r s).counters
      panel := { s.panel with events := (writeSlot g label i r s).panel.events } } := by
  unfold writeSlot
  rw [reportAll_frame]
  rfl

/-- The reports of one slot at an install change what reports change. -/
theorem reportSlot_frame (p : Profile) (label : Word16) (s : State) (x : Front × Nat) : reportSlot p label s x = { s with
    exc := (reportSlot p label s x).exc
    counters := s.counters.withDisabled (reportSlot p label s x).counters
    panel := { s.panel with events := (reportSlot p label s x).panel.events } } := by
  unfold reportSlot
  split
  · exact reportAll_frame _ _ _
  · rfl

/-- So do the reports of the whole installed table. -/
theorem reportSlots_frame (p : Profile) (label : Word16) (xs : List (Front × Nat)) (s : State) :
    xs.foldl (reportSlot p label) s = { s with
      exc := (xs.foldl (reportSlot p label) s).exc
      counters := s.counters.withDisabled (xs.foldl (reportSlot p label) s).counters
      panel := { s.panel with events := (xs.foldl (reportSlot p label) s).panel.events } } := by
  induction xs generalizing s with
  | nil => rfl
  | cons x xs ih =>
    have h := ih (reportSlot p label s x)
    have h1 := reportSlot_frame p label s x
    simp only [List.foldl_cons] at h ⊢
    rw [h]
    rw [h1]
    rfl

/-! ## Install and the end of an opportunity -/

/-- An install changes the table, the closed labels, the agreement record, the levels and what offers and reports
change. -/
theorem install_frame (s : State) : install s = { s with
    table := s.agree.staging.table s.profile
    fusion := { s.fusion with fusing := none, waiting := none, stopping := false }
    exc := (install s).exc
    agree := { s.agree with
      history := storePair s.agree.history s.agree.staging.label s.agree.staging.digest
      installed := true
      staging := Staging.cleared s.agree.staging.discarded }
    warn := (install s).warn
    trace := (install s).trace
    counters := (install s).counters
    panel := (install s).panel } := by
  unfold install
  simp only
  rw [reportSlots_frame]
  rfl

/-! ### install -/

@[simp] theorem install_mode (s : State) : (install s).mode = s.mode := by rw [install_frame]
@[simp] theorem install_resetHeld (s : State) : (install s).resetHeld = s.resetHeld := by rw [install_frame]
@[simp] theorem install_straps (s : State) : (install s).straps = s.straps := by rw [install_frame]
@[simp] theorem install_loader (s : State) : (install s).loader = s.loader := by rw [install_frame]
@[simp] theorem install_sensor (s : State) : (install s).sensor = s.sensor := by rw [install_frame]
@[simp] theorem install_detector (s : State) : (install s).detector = s.detector := by rw [install_frame]
@[simp] theorem install_outbound (s : State) : (install s).outbound = s.outbound := by rw [install_frame]
@[simp] theorem install_line (s : State) : (install s).line = s.line := by rw [install_frame]
@[simp] theorem install_roster (s : State) : (install s).roster = s.roster := by rw [install_frame]
@[simp] theorem install_time (s : State) : (install s).time = s.time := by rw [install_frame]
@[simp] theorem install_freeCount (s : State) : (install s).freeCount = s.freeCount := by rw [install_frame]
@[simp] theorem install_pending (s : State) : (install s).pending = s.pending := by rw [install_frame]

/-! ### settleActive -/

@[simp] theorem settleActive_mode (s : State) : (settleActive s).mode = s.mode := by
  unfold settleActive; dsimp only; split_ifs <;> simp
@[simp] theorem settleActive_resetHeld (s : State) : (settleActive s).resetHeld = s.resetHeld := by
  unfold settleActive; dsimp only; split_ifs <;> simp
@[simp] theorem settleActive_straps (s : State) : (settleActive s).straps = s.straps := by
  unfold settleActive; dsimp only; split_ifs <;> simp
@[simp] theorem settleActive_loader (s : State) : (settleActive s).loader = s.loader := by
  unfold settleActive; dsimp only; split_ifs <;> simp
@[simp] theorem settleActive_sensor (s : State) : (settleActive s).sensor = s.sensor := by
  unfold settleActive; dsimp only; split_ifs <;> simp
@[simp] theorem settleActive_detector (s : State) : (settleActive s).detector = s.detector := by
  unfold settleActive; dsimp only; split_ifs <;> simp
@[simp] theorem settleActive_outbound (s : State) : (settleActive s).outbound = s.outbound := by
  unfold settleActive; dsimp only; split_ifs <;> simp
@[simp] theorem settleActive_line (s : State) : (settleActive s).line = s.line := by
  unfold settleActive; dsimp only; split_ifs <;> simp
@[simp] theorem settleActive_roster (s : State) : (settleActive s).roster = s.roster := by
  unfold settleActive; dsimp only; split_ifs <;> simp
@[simp] theorem settleActive_time (s : State) : (settleActive s).time = s.time := by
  unfold settleActive; dsimp only; split_ifs <;> simp
@[simp] theorem settleActive_freeCount (s : State) : (settleActive s).freeCount = s.freeCount := by
  unfold settleActive; dsimp only; split_ifs <;> simp
@[simp] theorem settleActive_pending (s : State) : (settleActive s).pending = s.pending := by
  unfold settleActive; dsimp only; split_ifs <;> simp

/-! ### settleStaging -/

@[simp] theorem settleStaging_mode (s : State) : (settleStaging s).mode = s.mode := by
  unfold settleStaging; split <;> simp
@[simp] theorem settleStaging_resetHeld (s : State) : (settleStaging s).resetHeld = s.resetHeld := by
  unfold settleStaging; split <;> simp
@[simp] theorem settleStaging_straps (s : State) : (settleStaging s).straps = s.straps := by
  unfold settleStaging; split <;> simp
@[simp] theorem settleStaging_loader (s : State) : (settleStaging s).loader = s.loader := by
  unfold settleStaging; split <;> simp
@[simp] theorem settleStaging_sensor (s : State) : (settleStaging s).sensor = s.sensor := by
  unfold settleStaging; split <;> simp
@[simp] theorem settleStaging_detector (s : State) : (settleStaging s).detector = s.detector := by
  unfold settleStaging; split <;> simp
@[simp] theorem settleStaging_outbound (s : State) : (settleStaging s).outbound = s.outbound := by
  unfold settleStaging; split <;> simp
@[simp] theorem settleStaging_line (s : State) : (settleStaging s).line = s.line := by
  unfold settleStaging; split <;> simp
@[simp] theorem settleStaging_roster (s : State) : (settleStaging s).roster = s.roster := by
  unfold settleStaging; split <;> simp
@[simp] theorem settleStaging_time (s : State) : (settleStaging s).time = s.time := by
  unfold settleStaging; split <;> simp
@[simp] theorem settleStaging_freeCount (s : State) : (settleStaging s).freeCount = s.freeCount := by
  unfold settleStaging; split <;> simp
@[simp] theorem settleStaging_pending (s : State) : (settleStaging s).pending = s.pending := by
  unfold settleStaging; split <;> simp

/-! ### takeUp -/

@[simp] theorem takeUp_mode (s : State) : (takeUp s).mode = s.mode := by
  unfold takeUp; split <;> simp
@[simp] theorem takeUp_resetHeld (s : State) : (takeUp s).resetHeld = s.resetHeld := by
  unfold takeUp; split <;> simp
@[simp] theorem takeUp_straps (s : State) : (takeUp s).straps = s.straps := by
  unfold takeUp; split <;> simp
@[simp] theorem takeUp_loader (s : State) : (takeUp s).loader = s.loader := by
  unfold takeUp; split <;> simp
@[simp] theorem takeUp_sensor (s : State) : (takeUp s).sensor = s.sensor := by
  unfold takeUp; split <;> simp
@[simp] theorem takeUp_detector (s : State) : (takeUp s).detector = s.detector := by
  unfold takeUp; split <;> simp
@[simp] theorem takeUp_outbound (s : State) : (takeUp s).outbound = s.outbound := by
  unfold takeUp; split <;> simp
@[simp] theorem takeUp_line (s : State) : (takeUp s).line = s.line := by
  unfold takeUp; split <;> simp
@[simp] theorem takeUp_roster (s : State) : (takeUp s).roster = s.roster := by
  unfold takeUp; split <;> simp
@[simp] theorem takeUp_time (s : State) : (takeUp s).time = s.time := by
  unfold takeUp; split <;> simp
@[simp] theorem takeUp_freeCount (s : State) : (takeUp s).freeCount = s.freeCount := by
  unfold takeUp; split <;> simp
@[simp] theorem takeUp_pending (s : State) : (takeUp s).pending = s.pending := by
  unfold takeUp; split <;> simp

/-! ### endStep -/

@[simp] theorem endStep_mode (s : State) : (endStep s).mode = s.mode := by
  unfold endStep; split <;> simp
@[simp] theorem endStep_resetHeld (s : State) : (endStep s).resetHeld = s.resetHeld := by
  unfold endStep; split <;> simp
@[simp] theorem endStep_straps (s : State) : (endStep s).straps = s.straps := by
  unfold endStep; split <;> simp
@[simp] theorem endStep_loader (s : State) : (endStep s).loader = s.loader := by
  unfold endStep; split <;> simp
@[simp] theorem endStep_sensor (s : State) : (endStep s).sensor = s.sensor := by
  unfold endStep; split <;> simp
@[simp] theorem endStep_detector (s : State) : (endStep s).detector = s.detector := by
  unfold endStep; split <;> simp
@[simp] theorem endStep_outbound (s : State) : (endStep s).outbound = s.outbound := by
  unfold endStep; split <;> simp
@[simp] theorem endStep_line (s : State) : (endStep s).line = s.line := by
  unfold endStep; split <;> simp
@[simp] theorem endStep_roster (s : State) : (endStep s).roster = s.roster := by
  unfold endStep; split <;> simp
@[simp] theorem endStep_time (s : State) : (endStep s).time = s.time := by
  unfold endStep; split <;> simp
@[simp] theorem endStep_freeCount (s : State) : (endStep s).freeCount = s.freeCount := by
  unfold endStep; split <;> simp
@[simp] theorem endStep_pending (s : State) : (endStep s).pending = s.pending := by
  unfold endStep; split <;> simp

/-! ### moveCounter -/

@[simp] theorem moveCounter_mode (src : Station) (kind : FrameKind) (s : State) : (moveCounter src kind s).mode = s.mode := by simp [moveCounter]
@[simp] theorem moveCounter_resetHeld (src : Station) (kind : FrameKind) (s : State) : (moveCounter src kind s).resetHeld = s.resetHeld := by simp [moveCounter]
@[simp] theorem moveCounter_straps (src : Station) (kind : FrameKind) (s : State) : (moveCounter src kind s).straps = s.straps := by simp [moveCounter]
@[simp] theorem moveCounter_loader (src : Station) (kind : FrameKind) (s : State) : (moveCounter src kind s).loader = s.loader := by simp [moveCounter]
@[simp] theorem moveCounter_sensor (src : Station) (kind : FrameKind) (s : State) : (moveCounter src kind s).sensor = s.sensor := by simp [moveCounter]
@[simp] theorem moveCounter_detector (src : Station) (kind : FrameKind) (s : State) : (moveCounter src kind s).detector = s.detector := by simp [moveCounter]
@[simp] theorem moveCounter_outbound (src : Station) (kind : FrameKind) (s : State) : (moveCounter src kind s).outbound = s.outbound := by simp [moveCounter]
@[simp] theorem moveCounter_roster (src : Station) (kind : FrameKind) (s : State) : (moveCounter src kind s).roster = s.roster := by simp [moveCounter]
@[simp] theorem moveCounter_time (src : Station) (kind : FrameKind) (s : State) : (moveCounter src kind s).time = s.time := by simp [moveCounter]
@[simp] theorem moveCounter_freeCount (src : Station) (kind : FrameKind) (s : State) : (moveCounter src kind s).freeCount = s.freeCount := by simp [moveCounter]
@[simp] theorem moveCounter_pending (src : Station) (kind : FrameKind) (s : State) : (moveCounter src kind s).pending = s.pending := by simp [moveCounter]

/-! ### alignTo -/

@[simp] theorem alignTo_mode (src : Station) (kind : FrameKind) (s : State) : (alignTo src kind s).mode = s.mode := by
  unfold alignTo; split <;> simp
@[simp] theorem alignTo_resetHeld (src : Station) (kind : FrameKind) (s : State) : (alignTo src kind s).resetHeld = s.resetHeld := by
  unfold alignTo; split <;> simp
@[simp] theorem alignTo_straps (src : Station) (kind : FrameKind) (s : State) : (alignTo src kind s).straps = s.straps := by
  unfold alignTo; split <;> simp
@[simp] theorem alignTo_loader (src : Station) (kind : FrameKind) (s : State) : (alignTo src kind s).loader = s.loader := by
  unfold alignTo; split <;> simp
@[simp] theorem alignTo_sensor (src : Station) (kind : FrameKind) (s : State) : (alignTo src kind s).sensor = s.sensor := by
  unfold alignTo; split <;> simp
@[simp] theorem alignTo_detector (src : Station) (kind : FrameKind) (s : State) : (alignTo src kind s).detector = s.detector := by
  unfold alignTo; split <;> simp
@[simp] theorem alignTo_outbound (src : Station) (kind : FrameKind) (s : State) : (alignTo src kind s).outbound = s.outbound := by
  unfold alignTo; split <;> simp
@[simp] theorem alignTo_roster (src : Station) (kind : FrameKind) (s : State) : (alignTo src kind s).roster = s.roster := by
  unfold alignTo; split <;> simp
@[simp] theorem alignTo_time (src : Station) (kind : FrameKind) (s : State) : (alignTo src kind s).time = s.time := by
  unfold alignTo; split <;> simp
@[simp] theorem alignTo_freeCount (src : Station) (kind : FrameKind) (s : State) : (alignTo src kind s).freeCount = s.freeCount := by
  unfold alignTo; split <;> simp
@[simp] theorem alignTo_pending (src : Station) (kind : FrameKind) (s : State) : (alignTo src kind s).pending = s.pending := by
  unfold alignTo; split <;> simp

/-! ### endOpportunity -/

@[simp] theorem endOpportunity_mode (k : Nat) (s : State) : (endOpportunity k s).mode = s.mode := by
  unfold endOpportunity; split <;> simp
@[simp] theorem endOpportunity_resetHeld (k : Nat) (s : State) : (endOpportunity k s).resetHeld = s.resetHeld := by
  unfold endOpportunity; split <;> simp
@[simp] theorem endOpportunity_straps (k : Nat) (s : State) : (endOpportunity k s).straps = s.straps := by
  unfold endOpportunity; split <;> simp
@[simp] theorem endOpportunity_loader (k : Nat) (s : State) : (endOpportunity k s).loader = s.loader := by
  unfold endOpportunity; split <;> simp
@[simp] theorem endOpportunity_sensor (k : Nat) (s : State) : (endOpportunity k s).sensor = s.sensor := by
  unfold endOpportunity; split <;> simp
@[simp] theorem endOpportunity_detector (k : Nat) (s : State) : (endOpportunity k s).detector = s.detector := by
  unfold endOpportunity; split <;> simp
@[simp] theorem endOpportunity_outbound (k : Nat) (s : State) : (endOpportunity k s).outbound = s.outbound := by
  unfold endOpportunity; split <;> simp
@[simp] theorem endOpportunity_roster (k : Nat) (s : State) : (endOpportunity k s).roster = s.roster := by
  unfold endOpportunity; split <;> simp
@[simp] theorem endOpportunity_time (k : Nat) (s : State) : (endOpportunity k s).time = s.time := by
  unfold endOpportunity; split <;> simp
@[simp] theorem endOpportunity_freeCount (k : Nat) (s : State) : (endOpportunity k s).freeCount = s.freeCount := by
  unfold endOpportunity; split <;> simp
@[simp] theorem endOpportunity_pending (k : Nat) (s : State) : (endOpportunity k s).pending = s.pending := by
  unfold endOpportunity; split <;> simp

/-! ### endCurrent -/

@[simp] theorem endCurrent_mode (s : State) : (endCurrent s).mode = s.mode := by
  unfold endCurrent; split <;> simp
@[simp] theorem endCurrent_resetHeld (s : State) : (endCurrent s).resetHeld = s.resetHeld := by
  unfold endCurrent; split <;> simp
@[simp] theorem endCurrent_straps (s : State) : (endCurrent s).straps = s.straps := by
  unfold endCurrent; split <;> simp
@[simp] theorem endCurrent_loader (s : State) : (endCurrent s).loader = s.loader := by
  unfold endCurrent; split <;> simp
@[simp] theorem endCurrent_sensor (s : State) : (endCurrent s).sensor = s.sensor := by
  unfold endCurrent; split <;> simp
@[simp] theorem endCurrent_detector (s : State) : (endCurrent s).detector = s.detector := by
  unfold endCurrent; split <;> simp
@[simp] theorem endCurrent_outbound (s : State) : (endCurrent s).outbound = s.outbound := by
  unfold endCurrent; split <;> simp
@[simp] theorem endCurrent_roster (s : State) : (endCurrent s).roster = s.roster := by
  unfold endCurrent; split <;> simp
@[simp] theorem endCurrent_time (s : State) : (endCurrent s).time = s.time := by
  unfold endCurrent; split <;> simp
@[simp] theorem endCurrent_freeCount (s : State) : (endCurrent s).freeCount = s.freeCount := by
  unfold endCurrent; split <;> simp
@[simp] theorem endCurrent_pending (s : State) : (endCurrent s).pending = s.pending := by
  unfold endCurrent; split <;> simp

/-! ### frameOver -/

@[simp] theorem frameOver_mode (final : Bool) (s : State) : (frameOver final s).mode = s.mode := by
  unfold frameOver; split <;> simp
@[simp] theorem frameOver_resetHeld (final : Bool) (s : State) : (frameOver final s).resetHeld = s.resetHeld := by
  unfold frameOver; split <;> simp
@[simp] theorem frameOver_straps (final : Bool) (s : State) : (frameOver final s).straps = s.straps := by
  unfold frameOver; split <;> simp
@[simp] theorem frameOver_loader (final : Bool) (s : State) : (frameOver final s).loader = s.loader := by
  unfold frameOver; split <;> simp
@[simp] theorem frameOver_sensor (final : Bool) (s : State) : (frameOver final s).sensor = s.sensor := by
  unfold frameOver; split <;> simp
@[simp] theorem frameOver_detector (final : Bool) (s : State) : (frameOver final s).detector = s.detector := by
  unfold frameOver; split <;> simp
@[simp] theorem frameOver_outbound (final : Bool) (s : State) : (frameOver final s).outbound = s.outbound := by
  unfold frameOver; split <;> simp
@[simp] theorem frameOver_roster (final : Bool) (s : State) : (frameOver final s).roster = s.roster := by
  unfold frameOver; split <;> simp
@[simp] theorem frameOver_time (final : Bool) (s : State) : (frameOver final s).time = s.time := by
  unfold frameOver; split <;> simp
@[simp] theorem frameOver_freeCount (final : Bool) (s : State) : (frameOver final s).freeCount = s.freeCount := by
  unfold frameOver; split <;> simp
@[simp] theorem frameOver_pending (final : Bool) (s : State) : (frameOver final s).pending = s.pending := by
  unfold frameOver; split <;> simp

/-! ### deliver -/

@[simp] theorem deliver_mode (src : Station) (b : Body) (s : State) : (deliver src b s).mode = s.mode := by
  unfold deliver; split <;> [simp; simp; (split <;> simp); (split <;> simp)]
@[simp] theorem deliver_resetHeld (src : Station) (b : Body) (s : State) : (deliver src b s).resetHeld = s.resetHeld := by
  unfold deliver; split <;> [simp; simp; (split <;> simp); (split <;> simp)]
@[simp] theorem deliver_straps (src : Station) (b : Body) (s : State) : (deliver src b s).straps = s.straps := by
  unfold deliver; split <;> [simp; simp; (split <;> simp); (split <;> simp)]
@[simp] theorem deliver_loader (src : Station) (b : Body) (s : State) : (deliver src b s).loader = s.loader := by
  unfold deliver; split <;> [simp; simp; (split <;> simp); (split <;> simp)]
@[simp] theorem deliver_table (src : Station) (b : Body) (s : State) : (deliver src b s).table = s.table := by
  unfold deliver; split <;> [simp; simp; (split <;> simp); (split <;> simp)]
@[simp] theorem deliver_exc (src : Station) (b : Body) (s : State) : (deliver src b s).exc = s.exc := by
  unfold deliver; split <;> [simp; simp; (split <;> simp); (split <;> simp)]
@[simp] theorem deliver_sensor (src : Station) (b : Body) (s : State) : (deliver src b s).sensor = s.sensor := by
  unfold deliver; split <;> [simp; simp; (split <;> simp); (split <;> simp)]
@[simp] theorem deliver_detector (src : Station) (b : Body) (s : State) : (deliver src b s).detector = s.detector := by
  unfold deliver; split <;> [simp; simp; (split <;> simp); (split <;> simp)]
@[simp] theorem deliver_outbound (src : Station) (b : Body) (s : State) : (deliver src b s).outbound = s.outbound := by
  unfold deliver; split <;> [simp; simp; (split <;> simp); (split <;> simp)]
@[simp] theorem deliver_line (src : Station) (b : Body) (s : State) : (deliver src b s).line = s.line := by
  unfold deliver; split <;> [simp; simp; (split <;> simp); (split <;> simp)]
@[simp] theorem deliver_time (src : Station) (b : Body) (s : State) : (deliver src b s).time = s.time := by
  unfold deliver; split <;> [simp; simp; (split <;> simp); (split <;> simp)]
@[simp] theorem deliver_warn (src : Station) (b : Body) (s : State) : (deliver src b s).warn = s.warn := by
  unfold deliver; split <;> [simp; simp; (split <;> simp); (split <;> simp)]
@[simp] theorem deliver_freeCount (src : Station) (b : Body) (s : State) : (deliver src b s).freeCount = s.freeCount := by
  unfold deliver; split <;> [simp; simp; (split <;> simp); (split <;> simp)]
@[simp] theorem deliver_pending (src : Station) (b : Body) (s : State) : (deliver src b s).pending = s.pending := by
  unfold deliver; split <;> [simp; simp; (split <;> simp); (split <;> simp)]

/-! ### takeInCycle -/

@[simp] theorem takeInCycle_mode (src : Station) (final : Bool) (b : Body) (s : State) : (takeInCycle src final b s).mode = s.mode := by simp [takeInCycle]
@[simp] theorem takeInCycle_resetHeld (src : Station) (final : Bool) (b : Body) (s : State) : (takeInCycle src final b s).resetHeld = s.resetHeld := by simp [takeInCycle]
@[simp] theorem takeInCycle_straps (src : Station) (final : Bool) (b : Body) (s : State) : (takeInCycle src final b s).straps = s.straps := by simp [takeInCycle]
@[simp] theorem takeInCycle_loader (src : Station) (final : Bool) (b : Body) (s : State) : (takeInCycle src final b s).loader = s.loader := by simp [takeInCycle]
@[simp] theorem takeInCycle_sensor (src : Station) (final : Bool) (b : Body) (s : State) : (takeInCycle src final b s).sensor = s.sensor := by simp [takeInCycle]
@[simp] theorem takeInCycle_detector (src : Station) (final : Bool) (b : Body) (s : State) : (takeInCycle src final b s).detector = s.detector := by simp [takeInCycle]
@[simp] theorem takeInCycle_outbound (src : Station) (final : Bool) (b : Body) (s : State) : (takeInCycle src final b s).outbound = s.outbound := by simp [takeInCycle]
@[simp] theorem takeInCycle_time (src : Station) (final : Bool) (b : Body) (s : State) : (takeInCycle src final b s).time = s.time := by simp [takeInCycle]
@[simp] theorem takeInCycle_freeCount (src : Station) (final : Bool) (b : Body) (s : State) : (takeInCycle src final b s).freeCount = s.freeCount := by simp [takeInCycle]
@[simp] theorem takeInCycle_pending (src : Station) (final : Bool) (b : Body) (s : State) : (takeInCycle src final b s).pending = s.pending := by simp [takeInCycle]

/-! ### takeAfterWake -/

@[simp] theorem takeAfterWake_resetHeld (src : Station) (final : Bool) (b : Body) (s : State) : (takeAfterWake src final b s).resetHeld = s.resetHeld := by simp [takeAfterWake]
@[simp] theorem takeAfterWake_straps (src : Station) (final : Bool) (b : Body) (s : State) : (takeAfterWake src final b s).straps = s.straps := by simp [takeAfterWake]
@[simp] theorem takeAfterWake_loader (src : Station) (final : Bool) (b : Body) (s : State) : (takeAfterWake src final b s).loader = s.loader := by simp [takeAfterWake]
@[simp] theorem takeAfterWake_sensor (src : Station) (final : Bool) (b : Body) (s : State) : (takeAfterWake src final b s).sensor = s.sensor := by simp [takeAfterWake]
@[simp] theorem takeAfterWake_detector (src : Station) (final : Bool) (b : Body) (s : State) : (takeAfterWake src final b s).detector = s.detector := by simp [takeAfterWake]
@[simp] theorem takeAfterWake_outbound (src : Station) (final : Bool) (b : Body) (s : State) : (takeAfterWake src final b s).outbound = s.outbound := by simp [takeAfterWake]
@[simp] theorem takeAfterWake_time (src : Station) (final : Bool) (b : Body) (s : State) : (takeAfterWake src final b s).time = s.time := by simp [takeAfterWake]
@[simp] theorem takeAfterWake_freeCount (src : Station) (final : Bool) (b : Body) (s : State) : (takeAfterWake src final b s).freeCount = s.freeCount := by simp [takeAfterWake]
@[simp] theorem takeAfterWake_pending (src : Station) (final : Bool) (b : Body) (s : State) : (takeAfterWake src final b s).pending = s.pending := by simp [takeAfterWake]

/-! ### takeFrame -/

@[simp] theorem takeFrame_resetHeld (src : Station) (final : Bool) (b : Body) (s : State) : (takeFrame src final b s).resetHeld = s.resetHeld := by
  unfold takeFrame; (repeat' split) <;> simp
@[simp] theorem takeFrame_straps (src : Station) (final : Bool) (b : Body) (s : State) : (takeFrame src final b s).straps = s.straps := by
  unfold takeFrame; (repeat' split) <;> simp
@[simp] theorem takeFrame_loader (src : Station) (final : Bool) (b : Body) (s : State) : (takeFrame src final b s).loader = s.loader := by
  unfold takeFrame; (repeat' split) <;> simp
@[simp] theorem takeFrame_sensor (src : Station) (final : Bool) (b : Body) (s : State) : (takeFrame src final b s).sensor = s.sensor := by
  unfold takeFrame; (repeat' split) <;> simp
@[simp] theorem takeFrame_detector (src : Station) (final : Bool) (b : Body) (s : State) : (takeFrame src final b s).detector = s.detector := by
  unfold takeFrame; (repeat' split) <;> simp
@[simp] theorem takeFrame_outbound (src : Station) (final : Bool) (b : Body) (s : State) : (takeFrame src final b s).outbound = s.outbound := by
  unfold takeFrame; (repeat' split) <;> simp
@[simp] theorem takeFrame_time (src : Station) (final : Bool) (b : Body) (s : State) : (takeFrame src final b s).time = s.time := by
  unfold takeFrame; (repeat' split) <;> simp
@[simp] theorem takeFrame_freeCount (src : Station) (final : Bool) (b : Body) (s : State) : (takeFrame src final b s).freeCount = s.freeCount := by
  unfold takeFrame; (repeat' split) <;> simp
@[simp] theorem takeFrame_pending (src : Station) (final : Bool) (b : Body) (s : State) : (takeFrame src final b s).pending = s.pending := by
  unfold takeFrame; (repeat' split) <;> simp

/-! ### rejectFrame -/

@[simp] theorem rejectFrame_resetHeld (r : RejectReason) (isCut : Bool) (h : Option Byte) (s : State) : (rejectFrame r isCut h s).resetHeld = s.resetHeld := by
  unfold rejectFrame; simp only; split <;> simp
@[simp] theorem rejectFrame_straps (r : RejectReason) (isCut : Bool) (h : Option Byte) (s : State) : (rejectFrame r isCut h s).straps = s.straps := by
  unfold rejectFrame; simp only; split <;> simp
@[simp] theorem rejectFrame_loader (r : RejectReason) (isCut : Bool) (h : Option Byte) (s : State) : (rejectFrame r isCut h s).loader = s.loader := by
  unfold rejectFrame; simp only; split <;> simp
@[simp] theorem rejectFrame_table (r : RejectReason) (isCut : Bool) (h : Option Byte) (s : State) : (rejectFrame r isCut h s).table = s.table := by
  unfold rejectFrame; simp only; split <;> simp
@[simp] theorem rejectFrame_fusion (r : RejectReason) (isCut : Bool) (h : Option Byte) (s : State) : (rejectFrame r isCut h s).fusion = s.fusion := by
  unfold rejectFrame; simp only; split <;> simp
@[simp] theorem rejectFrame_exc (r : RejectReason) (isCut : Bool) (h : Option Byte) (s : State) : (rejectFrame r isCut h s).exc = s.exc := by
  unfold rejectFrame; simp only; split <;> simp
@[simp] theorem rejectFrame_sensor (r : RejectReason) (isCut : Bool) (h : Option Byte) (s : State) : (rejectFrame r isCut h s).sensor = s.sensor := by
  unfold rejectFrame; simp only; split <;> simp
@[simp] theorem rejectFrame_detector (r : RejectReason) (isCut : Bool) (h : Option Byte) (s : State) : (rejectFrame r isCut h s).detector = s.detector := by
  unfold rejectFrame; simp only; split <;> simp
@[simp] theorem rejectFrame_outbound (r : RejectReason) (isCut : Bool) (h : Option Byte) (s : State) : (rejectFrame r isCut h s).outbound = s.outbound := by
  unfold rejectFrame; simp only; split <;> simp
@[simp] theorem rejectFrame_roster (r : RejectReason) (isCut : Bool) (h : Option Byte) (s : State) : (rejectFrame r isCut h s).roster = s.roster := by
  unfold rejectFrame; simp only; split <;> simp
@[simp] theorem rejectFrame_agree (r : RejectReason) (isCut : Bool) (h : Option Byte) (s : State) : (rejectFrame r isCut h s).agree = s.agree := by
  unfold rejectFrame; simp only; split <;> simp
@[simp] theorem rejectFrame_time (r : RejectReason) (isCut : Bool) (h : Option Byte) (s : State) : (rejectFrame r isCut h s).time = s.time := by
  unfold rejectFrame; simp only; split <;> simp
@[simp] theorem rejectFrame_warn (r : RejectReason) (isCut : Bool) (h : Option Byte) (s : State) : (rejectFrame r isCut h s).warn = s.warn := by
  unfold rejectFrame; simp only; split <;> simp
@[simp] theorem rejectFrame_freeCount (r : RejectReason) (isCut : Bool) (h : Option Byte) (s : State) : (rejectFrame r isCut h s).freeCount = s.freeCount := by
  unfold rejectFrame; simp only; split <;> simp
@[simp] theorem rejectFrame_pending (r : RejectReason) (isCut : Bool) (h : Option Byte) (s : State) : (rejectFrame r isCut h s).pending = s.pending := by
  unfold rejectFrame; simp only; split <;> simp

/-! ### markJudged -/

@[simp] theorem markJudged_mode (before : Mode) (own : Bool) (c : Word16) (overrun : Bool) (s : State) : (markJudged before own c overrun s).mode = s.mode := by
  unfold markJudged; split <;> simp
@[simp] theorem markJudged_resetHeld (before : Mode) (own : Bool) (c : Word16) (overrun : Bool) (s : State) : (markJudged before own c overrun s).resetHeld = s.resetHeld := by
  unfold markJudged; split <;> simp
@[simp] theorem markJudged_straps (before : Mode) (own : Bool) (c : Word16) (overrun : Bool) (s : State) : (markJudged before own c overrun s).straps = s.straps := by
  unfold markJudged; split <;> simp
@[simp] theorem markJudged_loader (before : Mode) (own : Bool) (c : Word16) (overrun : Bool) (s : State) : (markJudged before own c overrun s).loader = s.loader := by
  unfold markJudged; split <;> simp
@[simp] theorem markJudged_table (before : Mode) (own : Bool) (c : Word16) (overrun : Bool) (s : State) : (markJudged before own c overrun s).table = s.table := by
  unfold markJudged; split <;> simp
@[simp] theorem markJudged_fusion (before : Mode) (own : Bool) (c : Word16) (overrun : Bool) (s : State) : (markJudged before own c overrun s).fusion = s.fusion := by
  unfold markJudged; split <;> simp
@[simp] theorem markJudged_exc (before : Mode) (own : Bool) (c : Word16) (overrun : Bool) (s : State) : (markJudged before own c overrun s).exc = s.exc := by
  unfold markJudged; split <;> simp
@[simp] theorem markJudged_sensor (before : Mode) (own : Bool) (c : Word16) (overrun : Bool) (s : State) : (markJudged before own c overrun s).sensor = s.sensor := by
  unfold markJudged; split <;> simp
@[simp] theorem markJudged_outbound (before : Mode) (own : Bool) (c : Word16) (overrun : Bool) (s : State) : (markJudged before own c overrun s).outbound = s.outbound := by
  unfold markJudged; split <;> simp
@[simp] theorem markJudged_line (before : Mode) (own : Bool) (c : Word16) (overrun : Bool) (s : State) : (markJudged before own c overrun s).line = s.line := by
  unfold markJudged; split <;> simp
@[simp] theorem markJudged_time (before : Mode) (own : Bool) (c : Word16) (overrun : Bool) (s : State) : (markJudged before own c overrun s).time = s.time := by
  unfold markJudged; split <;> simp
@[simp] theorem markJudged_pending (before : Mode) (own : Bool) (c : Word16) (overrun : Bool) (s : State) : (markJudged before own c overrun s).pending = s.pending := by
  unfold markJudged; split <;> simp

/-! ### handleMark -/

@[simp] theorem handleMark_resetHeld (own : Bool) (src : Station) (m : MarkBody) (s : State) : (handleMark own src m s).resetHeld = s.resetHeld := by
  unfold handleMark; simp only; cases own <;> simp
@[simp] theorem handleMark_straps (own : Bool) (src : Station) (m : MarkBody) (s : State) : (handleMark own src m s).straps = s.straps := by
  unfold handleMark; simp only; cases own <;> simp
@[simp] theorem handleMark_loader (own : Bool) (src : Station) (m : MarkBody) (s : State) : (handleMark own src m s).loader = s.loader := by
  unfold handleMark; simp only; cases own <;> simp
@[simp] theorem handleMark_table (own : Bool) (src : Station) (m : MarkBody) (s : State) : (handleMark own src m s).table = s.table := by
  unfold handleMark; simp only; cases own <;> simp
@[simp] theorem handleMark_exc (own : Bool) (src : Station) (m : MarkBody) (s : State) : (handleMark own src m s).exc = s.exc := by
  unfold handleMark; simp only; cases own <;> simp
@[simp] theorem handleMark_sensor (own : Bool) (src : Station) (m : MarkBody) (s : State) : (handleMark own src m s).sensor = s.sensor := by
  unfold handleMark; simp only; cases own <;> simp
@[simp] theorem handleMark_outbound (own : Bool) (src : Station) (m : MarkBody) (s : State) : (handleMark own src m s).outbound = s.outbound := by
  unfold handleMark; simp only; cases own <;> simp
@[simp] theorem handleMark_pending (own : Bool) (src : Station) (m : MarkBody) (s : State) : (handleMark own src m s).pending = s.pending := by
  unfold handleMark; simp only; cases own <;> simp

/-! ### placeOnset -/

/-- An ONSET placed: the table and what reports and the unplaced count change. -/
theorem placeOnset_frame (g : Sighting) (label : Word16) (now : Tick) (s : State) : placeOnset g label now s = { s with
    table := (placeOnset g label now s).table
    exc := (placeOnset g label now s).exc
    counters := (placeOnset g label now s).counters
    panel := { s.panel with events := (placeOnset g label now s).panel.events } } := by
  unfold placeOnset createFront
  split
  · split
    · rw [writeSlot_frame]
    · rfl
  · split
    · simp only; rw [writeSlot_frame]
    · rfl

@[simp] theorem placeOnset_mode (g : Sighting) (label : Word16) (now : Tick) (s : State) : (placeOnset g label now s).mode = s.mode := by rw [placeOnset_frame]
@[simp] theorem placeOnset_resetHeld (g : Sighting) (label : Word16) (now : Tick) (s : State) : (placeOnset g label now s).resetHeld = s.resetHeld := by rw [placeOnset_frame]
@[simp] theorem placeOnset_straps (g : Sighting) (label : Word16) (now : Tick) (s : State) : (placeOnset g label now s).straps = s.straps := by rw [placeOnset_frame]
@[simp] theorem placeOnset_loader (g : Sighting) (label : Word16) (now : Tick) (s : State) : (placeOnset g label now s).loader = s.loader := by rw [placeOnset_frame]
@[simp] theorem placeOnset_fusion (g : Sighting) (label : Word16) (now : Tick) (s : State) : (placeOnset g label now s).fusion = s.fusion := by rw [placeOnset_frame]
@[simp] theorem placeOnset_sensor (g : Sighting) (label : Word16) (now : Tick) (s : State) : (placeOnset g label now s).sensor = s.sensor := by rw [placeOnset_frame]
@[simp] theorem placeOnset_detector (g : Sighting) (label : Word16) (now : Tick) (s : State) : (placeOnset g label now s).detector = s.detector := by rw [placeOnset_frame]
@[simp] theorem placeOnset_outbound (g : Sighting) (label : Word16) (now : Tick) (s : State) : (placeOnset g label now s).outbound = s.outbound := by rw [placeOnset_frame]
@[simp] theorem placeOnset_line (g : Sighting) (label : Word16) (now : Tick) (s : State) : (placeOnset g label now s).line = s.line := by rw [placeOnset_frame]
@[simp] theorem placeOnset_roster (g : Sighting) (label : Word16) (now : Tick) (s : State) : (placeOnset g label now s).roster = s.roster := by rw [placeOnset_frame]
@[simp] theorem placeOnset_agree (g : Sighting) (label : Word16) (now : Tick) (s : State) : (placeOnset g label now s).agree = s.agree := by rw [placeOnset_frame]
@[simp] theorem placeOnset_time (g : Sighting) (label : Word16) (now : Tick) (s : State) : (placeOnset g label now s).time = s.time := by rw [placeOnset_frame]
@[simp] theorem placeOnset_warn (g : Sighting) (label : Word16) (now : Tick) (s : State) : (placeOnset g label now s).warn = s.warn := by rw [placeOnset_frame]
@[simp] theorem placeOnset_trace (g : Sighting) (label : Word16) (now : Tick) (s : State) : (placeOnset g label now s).trace = s.trace := by rw [placeOnset_frame]
@[simp] theorem placeOnset_freeCount (g : Sighting) (label : Word16) (now : Tick) (s : State) : (placeOnset g label now s).freeCount = s.freeCount := by rw [placeOnset_frame]
@[simp] theorem placeOnset_pending (g : Sighting) (label : Word16) (now : Tick) (s : State) : (placeOnset g label now s).pending = s.pending := by rw [placeOnset_frame]

/-! ### applySighting -/

/-- A sighting step's effect on the table: the table and what reports and the two counts of it change. -/
theorem applySighting_frame (g : Sighting) (label : Word16) (now : Tick) (s : State) :
    applySighting g label now s = { s with
      table := (applySighting g label now s).table
      exc := (applySighting g label now s).exc
      counters := (applySighting g label now s).counters
      panel := { s.panel with events := (applySighting g label now s).panel.events } } := by
  unfold applySighting applyOnset applySubside
  split
  · rw [placeOnset_frame, reportBearings_frame]
  · split
    · split
      · rw [writeSlot_frame]
      · rfl
    · rfl

@[simp] theorem applySighting_mode (g : Sighting) (label : Word16) (now : Tick) (s : State) : (applySighting g label now s).mode = s.mode := by rw [applySighting_frame]
@[simp] theorem applySighting_resetHeld (g : Sighting) (label : Word16) (now : Tick) (s : State) : (applySighting g label now s).resetHeld = s.resetHeld := by rw [applySighting_frame]
@[simp] theorem applySighting_straps (g : Sighting) (label : Word16) (now : Tick) (s : State) : (applySighting g label now s).straps = s.straps := by rw [applySighting_frame]
@[simp] theorem applySighting_loader (g : Sighting) (label : Word16) (now : Tick) (s : State) : (applySighting g label now s).loader = s.loader := by rw [applySighting_frame]
@[simp] theorem applySighting_fusion (g : Sighting) (label : Word16) (now : Tick) (s : State) : (applySighting g label now s).fusion = s.fusion := by rw [applySighting_frame]
@[simp] theorem applySighting_sensor (g : Sighting) (label : Word16) (now : Tick) (s : State) : (applySighting g label now s).sensor = s.sensor := by rw [applySighting_frame]
@[simp] theorem applySighting_detector (g : Sighting) (label : Word16) (now : Tick) (s : State) : (applySighting g label now s).detector = s.detector := by rw [applySighting_frame]
@[simp] theorem applySighting_outbound (g : Sighting) (label : Word16) (now : Tick) (s : State) : (applySighting g label now s).outbound = s.outbound := by rw [applySighting_frame]
@[simp] theorem applySighting_line (g : Sighting) (label : Word16) (now : Tick) (s : State) : (applySighting g label now s).line = s.line := by rw [applySighting_frame]
@[simp] theorem applySighting_roster (g : Sighting) (label : Word16) (now : Tick) (s : State) : (applySighting g label now s).roster = s.roster := by rw [applySighting_frame]
@[simp] theorem applySighting_agree (g : Sighting) (label : Word16) (now : Tick) (s : State) : (applySighting g label now s).agree = s.agree := by rw [applySighting_frame]
@[simp] theorem applySighting_time (g : Sighting) (label : Word16) (now : Tick) (s : State) : (applySighting g label now s).time = s.time := by rw [applySighting_frame]
@[simp] theorem applySighting_warn (g : Sighting) (label : Word16) (now : Tick) (s : State) : (applySighting g label now s).warn = s.warn := by rw [applySighting_frame]
@[simp] theorem applySighting_trace (g : Sighting) (label : Word16) (now : Tick) (s : State) : (applySighting g label now s).trace = s.trace := by rw [applySighting_frame]
@[simp] theorem applySighting_freeCount (g : Sighting) (label : Word16) (now : Tick) (s : State) : (applySighting g label now s).freeCount = s.freeCount := by rw [applySighting_frame]
@[simp] theorem applySighting_pending (g : Sighting) (label : Word16) (now : Tick) (s : State) : (applySighting g label now s).pending = s.pending := by rw [applySighting_frame]

/-! ### sightingStep -/

@[simp] theorem sightingStep_mode (l : Label) (g : Sighting) (s : State) : (sightingStep l g s).mode = s.mode := by simp [sightingStep]
@[simp] theorem sightingStep_resetHeld (l : Label) (g : Sighting) (s : State) : (sightingStep l g s).resetHeld = s.resetHeld := by simp [sightingStep]
@[simp] theorem sightingStep_straps (l : Label) (g : Sighting) (s : State) : (sightingStep l g s).straps = s.straps := by simp [sightingStep]
@[simp] theorem sightingStep_loader (l : Label) (g : Sighting) (s : State) : (sightingStep l g s).loader = s.loader := by simp [sightingStep]
@[simp] theorem sightingStep_sensor (l : Label) (g : Sighting) (s : State) : (sightingStep l g s).sensor = s.sensor := by simp [sightingStep]
@[simp] theorem sightingStep_detector (l : Label) (g : Sighting) (s : State) : (sightingStep l g s).detector = s.detector := by simp [sightingStep]
@[simp] theorem sightingStep_outbound (l : Label) (g : Sighting) (s : State) : (sightingStep l g s).outbound = s.outbound := by simp [sightingStep]
@[simp] theorem sightingStep_line (l : Label) (g : Sighting) (s : State) : (sightingStep l g s).line = s.line := by simp [sightingStep]
@[simp] theorem sightingStep_roster (l : Label) (g : Sighting) (s : State) : (sightingStep l g s).roster = s.roster := by simp [sightingStep]
@[simp] theorem sightingStep_time (l : Label) (g : Sighting) (s : State) : (sightingStep l g s).time = s.time := by simp [sightingStep]
@[simp] theorem sightingStep_freeCount (l : Label) (g : Sighting) (s : State) : (sightingStep l g s).freeCount = s.freeCount := by simp [sightingStep]
@[simp] theorem sightingStep_pending (l : Label) (g : Sighting) (s : State) : (sightingStep l g s).pending = s.pending := by simp [sightingStep]

/-! ### takeSample -/

@[simp] theorem takeSample_resetHeld (x : Sample) (vaneFaulted : Bool) (s : State) : (takeSample x vaneFaulted s).resetHeld = s.resetHeld := by simp [takeSample]
@[simp] theorem takeSample_straps (x : Sample) (vaneFaulted : Bool) (s : State) : (takeSample x vaneFaulted s).straps = s.straps := by simp [takeSample]
@[simp] theorem takeSample_loader (x : Sample) (vaneFaulted : Bool) (s : State) : (takeSample x vaneFaulted s).loader = s.loader := by simp [takeSample]
@[simp] theorem takeSample_table (x : Sample) (vaneFaulted : Bool) (s : State) : (takeSample x vaneFaulted s).table = s.table := by simp [takeSample]
@[simp] theorem takeSample_fusion (x : Sample) (vaneFaulted : Bool) (s : State) : (takeSample x vaneFaulted s).fusion = s.fusion := by simp [takeSample]
@[simp] theorem takeSample_exc (x : Sample) (vaneFaulted : Bool) (s : State) : (takeSample x vaneFaulted s).exc = s.exc := by simp [takeSample]
@[simp] theorem takeSample_sensor (x : Sample) (vaneFaulted : Bool) (s : State) : (takeSample x vaneFaulted s).sensor = s.sensor := by simp [takeSample]
@[simp] theorem takeSample_roster (x : Sample) (vaneFaulted : Bool) (s : State) : (takeSample x vaneFaulted s).roster = s.roster := by simp [takeSample]
@[simp] theorem takeSample_agree (x : Sample) (vaneFaulted : Bool) (s : State) : (takeSample x vaneFaulted s).agree = s.agree := by simp [takeSample]
@[simp] theorem takeSample_trace (x : Sample) (vaneFaulted : Bool) (s : State) : (takeSample x vaneFaulted s).trace = s.trace := by simp [takeSample]
@[simp] theorem takeSample_freeCount (x : Sample) (vaneFaulted : Bool) (s : State) : (takeSample x vaneFaulted s).freeCount = s.freeCount := by simp [takeSample]
@[simp] theorem takeSample_pending (x : Sample) (vaneFaulted : Bool) (s : State) : (takeSample x vaneFaulted s).pending = s.pending := by simp [takeSample]

/-! ### endPeriod -/

@[simp] theorem endPeriod_resetHeld (dustReady : Bool) (s : State) : (endPeriod dustReady s).resetHeld = s.resetHeld := by simp [endPeriod]
@[simp] theorem endPeriod_straps (dustReady : Bool) (s : State) : (endPeriod dustReady s).straps = s.straps := by simp [endPeriod]
@[simp] theorem endPeriod_loader (dustReady : Bool) (s : State) : (endPeriod dustReady s).loader = s.loader := by simp [endPeriod]
@[simp] theorem endPeriod_table (dustReady : Bool) (s : State) : (endPeriod dustReady s).table = s.table := by simp [endPeriod]
@[simp] theorem endPeriod_fusion (dustReady : Bool) (s : State) : (endPeriod dustReady s).fusion = s.fusion := by simp [endPeriod]
@[simp] theorem endPeriod_exc (dustReady : Bool) (s : State) : (endPeriod dustReady s).exc = s.exc := by simp [endPeriod]
@[simp] theorem endPeriod_roster (dustReady : Bool) (s : State) : (endPeriod dustReady s).roster = s.roster := by simp [endPeriod]
@[simp] theorem endPeriod_agree (dustReady : Bool) (s : State) : (endPeriod dustReady s).agree = s.agree := by simp [endPeriod]
@[simp] theorem endPeriod_trace (dustReady : Bool) (s : State) : (endPeriod dustReady s).trace = s.trace := by simp [endPeriod]
@[simp] theorem endPeriod_freeCount (dustReady : Bool) (s : State) : (endPeriod dustReady s).freeCount = s.freeCount := by simp [endPeriod]
@[simp] theorem endPeriod_pending (dustReady : Bool) (s : State) : (endPeriod dustReady s).pending = s.pending := by simp [endPeriod]

/-! ## The trace ring and the digest history -/

/-- The ring never holds more than 48 entries (R184). -/
theorem pushEntry_length (ring : List TraceEntry) (e : TraceEntry) : (pushEntry ring e).length ≤ 48 := by
  simp [pushEntry]; omega

/-- The history never holds more than four pairs (R130). -/
theorem storePair_length {h : List (Word16 × Word16)} (label digest : Word16) (hh : h.length ≤ 4) :
    (storePair h label digest).length ≤ 4 := by
  have h1 : (h.filter (fun x => x.1 != label)).length ≤ h.length := List.length_filter_le _ _
  unfold storePair
  simp only
  split <;> simp <;> omega

/-! ## Taking a frame -/

/-- A taken frame other than a MARK, received as the kind its command names, is taken and the conditions of LULL are
tested (R92, R156). -/
theorem receive_of_taken {s : State} {frame : List RxChar} {src : Station} {final : Bool} {b : Body}
    (hr : s.receives = true) (hj : s.judges frame = .taken src final b) (hk : b.kind ≠ .mark) :
    receive b.kind frame s = finish (takeFrame src final b s) := by
  cases b <;> simp_all [receive, Body.kind]

/-- A taken MARK has the effects of a MARK (R95). -/
theorem receive_of_mark {s : State} {frame : List RxChar} {src : Station} {final : Bool} {m : MarkBody}
    (hr : s.receives = true) (hj : s.judges frame = .taken src final (.mark m)) :
    receive .mark frame s = handleMark false src m (frameIn src (.mark m) s) := by
  simp [receive, hr, hj, Body.kind]

/-- A staging that is not active, or is held already, is left as it is but for the discarded mark (R144). -/
theorem settleStaging_of_idle {s : State} (h : s.agree.staging.active = false ∨ s.agree.staging.held = true) :
    settleStaging s = clearDiscarded s := by
  have : (s.agree.staging.active && !s.agree.staging.held) = false := by rcases h with h | h <;> simp [h]
  simp [settleStaging, this]

/-- An active staging that is not held is discarded, held or installed (R144). -/
theorem settleStaging_of_active {s : State} (h1 : s.agree.staging.active = true) (h2 : s.agree.staging.held = false) :
    settleStaging s = clearDiscarded (settleActive s) := by simp [settleStaging, h1, h2]

/-! ## Panel commands -/

/-- Where the station does not serve a command, it is answered NOT_READY and nothing else happens (R194). -/
theorem serve_not_ready {count : Nat} {args : List Byte} {body s : State} (h : s.resetHeld = false) :
    serve false count args body s
      = { s with panel := { s.panel with incoming := some (args.length + 2), response := [resultNotReady] } } := by
  simp [serve, h, noteTaken, respond]

/-- A command with another argument count is answered REJECTED and nothing else happens (R194). -/
theorem serve_bad_count {count : Nat} {args : List Byte} {body s : State} (h : s.resetHeld = false)
    (hc : args.length ≠ count) : serve true count args body s
      = { s with panel := { s.panel with incoming := some (args.length + 2), response := [resultRejected] } } := by
  simp [serve, h, hc, noteTaken, answerRejected, respond]

/-- A served command with its argument count has its own answer and effect (R194). -/
theorem serve_taken {args : List Byte} {body s : State} (h : s.resetHeld = false) :
    serve true args.length args body s = noteTaken args body := by simp [serve, h]

/-! ## A MARK -/

/-- The line after a MARK is the one its line effects give. -/
theorem handleMark_line (own : Bool) (src : Station) (m : MarkBody) (s : State) :
    (handleMark own src m s).line = (markLine m s).line := by
  unfold handleMark; simp only; unfold markJudged; cases own <;> split <;> simp

/-- The mode after a MARK (R93, R95, R111). -/
theorem handleMark_mode (own : Bool) (src : Station) (m : MarkBody) (s : State) :
    (handleMark own src m s).mode = s.mode.afterMark := by
  unfold handleMark; simp only; unfold markJudged; cases own <;> split <;> simp

/-- The clock after a MARK (R153). -/
theorem handleMark_time (own : Bool) (src : Station) (m : MarkBody) (s : State) :
    (handleMark own src m s).time = { s.time with yardClock := m.time, firstAdoption := false } := by
  unfold handleMark; simp only; unfold markJudged; cases own <;> split <;> simp

/-- The cycle labels after a MARK (R23, R24, R40). -/
theorem handleMark_fusion (own : Bool) (src : Station) (m : MarkBody) (s : State) :
    (handleMark own src m s).fusion = s.fusion.atMark m.cycle m.time := by
  unfold handleMark; simp only; unfold markJudged; cases own <;> split <;> simp [markLabels] <;> split <;> simp

/-- The Roster after a MARK: its source heard, its cycle closed (R116, R120). -/
theorem handleMark_roster (own : Bool) (src : Station) (m : MarkBody) (s : State) :
    (handleMark own src m s).roster = (s.roster.hear src).close s.own := by
  unfold handleMark; simp only; unfold markJudged
  cases own <;> split <;> simp [closeAndCheck, State.own] <;> split <;> simp [State.own]

/-- The counters after a MARK (R40, R95, R145, R153). -/
theorem handleMark_counters (own : Bool) (src : Station) (m : MarkBody) (s : State) :
    (handleMark own src m s).counters =
      { s.counters with
        clockSteps := if s.clockStep m.time then satInc s.counters.clockSteps else s.counters.clockSteps
        marksOpened := if own then satInc s.counters.marksOpened else s.counters.marksOpened
        transfersDiscarded := if s.agree.staging.active then satInc s.counters.transfersDiscarded
          else s.counters.transfersDiscarded
        fusionOverruns := if s.fusion.overruns then satInc s.counters.fusionOverruns
          else s.counters.fusionOverruns } := by
  unfold handleMark; simp only; unfold markJudged
  cases own <;> split <;> simp [markLabels]
    <;> (split <;> simp [staleStaging] <;> split
      <;> simp [adopt, markOpened, State.clockStep, State.profile, *] <;> congr 1 <;> (congr 1; exact (decide_eq_true_eq).symm))

/-! ## Fusion steps -/

/-- Reports do not read the table. -/
theorem reportAll_withTable (ctx : ExcContext) (xs : List ExcReport) (t : FrontTable) (s : State) :
    reportAll ctx xs { s with table := t } = { reportAll ctx xs s with table := t } := by
  unfold reportAll
  induction xs generalizing s with
  | nil => rfl
  | cons x xs ih => exact ih (report ctx s x)

/-- A slot written in a sighting step: the reports of its record, and the record in the table. -/
theorem writeSlot_eq (g : Sighting) (label : Word16) (i : Nat) (r : Front × List ExcReport) (s : State) :
    writeSlot g label i r s = { reportAll ⟨r.1.id, i, some (g.source, g.sid), label⟩ r.2 s with
      table := { s.table with slots := s.table.slots.set i r.1 } } := reportAll_withTable _ _ _ _

/-- The bearing reports of an ONSET: one for each slot, in order, whose bearing test met an UNSET sector. -/
theorem reportBearings_eq (p : Profile) (g : Sighting) (label : Word16) (slots : List Front) (s : State) :
    (unsetBearings p g slots).foldl (reportBearing g label) s
      = (slots.zipIdx.filter (fun x => (slotTest p g x.1).2)).foldl
          (fun v x => report ⟨x.1.id, x.2, some (g.source, g.sid), label⟩ v ⟨.unsetOperand, 1⟩) s := by
  simp only [unsetBearings, List.foldl_map]
  rfl

/-- An UNSET measurement's report, as a list. -/
theorem unsetReport_eq {α : Type} [DecidableEq α] (n : Int) (x : Option α) :
    unsetReport n x = if x = none then [⟨.unsetOperand, n⟩] else [] := by cases x <;> rfl

/-- Reports do not read the Sighting Queue. -/
theorem reportAll_withFusion (ctx : ExcContext) (xs : List ExcReport) (f : Fusion) (s : State) :
    reportAll ctx xs { s with fusion := f } = { reportAll ctx xs s with fusion := f } := by
  unfold reportAll
  induction xs generalizing s with
  | nil => rfl
  | cons x xs ih => exact ih (report ctx s x)

/-- Nor do the bearing reports of an ONSET. -/
theorem reportBearings_withFusion (g : Sighting) (label : Word16) (xs : List (Nat × Byte)) (f : Fusion) (s : State) :
    xs.foldl (reportBearing g label) { s with fusion := f }
      = { xs.foldl (reportBearing g label) s with fusion := f } := by
  induction xs generalizing s with
  | nil => rfl
  | cons x xs ih => exact ih (reportBearing g label s x)

/-- A sighting step's effect on the table does not read the Sighting Queue. -/
theorem applySighting_withFusion (g : Sighting) (label : Word16) (now : Tick) (f : Fusion) (s : State) :
    applySighting g label now { s with fusion := f } = { applySighting g label now s with fusion := f } := by
  have hw : ∀ (i : Nat) (r : Front × List ExcReport) (x : State),
      writeSlot g label i r { x with fusion := f } = { writeSlot g label i r x with fusion := f } := fun i r x => by
    simp only [writeSlot]
    exact reportAll_withFusion _ _ _ { x with table := { x.table with slots := x.table.slots.set i r.1 } }
  have hpr : ∀ x : State, ({ x with fusion := f } : State).profile = x.profile := fun _ => rfl
  have hp : ∀ x : State, placeOnset g label now { x with fusion := f }
      = { placeOnset g label now x with fusion := f } := fun x => by
    simp only [placeOnset, hpr]
    split
    · split
      · exact hw _ _ x
      · rfl
    · split
      · rename_i i _
        exact hw i _ { x with table := { x.table with
          nextId := idAfter (assignId x.table.nextId (emptiedSlot x.profile i x.table.slots)) } }
      · rfl
  simp only [applySighting, applyOnset, applySubside, hpr]
  split
  · rw [reportBearings_withFusion, hp]
  · split
    · split
      · exact hw _ _ s
      · rfl
    · rfl

/-- A sighting step that no overrun has stopped. -/
theorem sightingStep_of_running {l : Label} {g : Sighting} {s : State} (h : s.fusion.stopping = false) :
    sightingStep l g s = dropHead l (applySighting g l.number l.now s) := by
  simp [sightingStep, endStep, dropHead, h]

/-- A sighting step that ends a stopped fusion. -/
theorem sightingStep_of_stopped {l : Label} {g : Sighting} {s : State} (h : s.fusion.stopping = true) :
    sightingStep l g s = takeUp (dropHead l (applySighting g l.number l.now s)) := by
  simp [sightingStep, endStep, dropHead, h]

/-- SIGHTING_STEP_END with a sighting left. -/
theorem execSightingStepEnd_of_head {s : State} {l : Label} {g : Sighting} {rest : List Sighting}
    (h0 : s.resetHeld = false) (h1 : s.mode.runs = true) (h2 : s.fusion.fusing = some l) (h3 : l.sightings = g :: rest) :
    execSightingStepEnd s = .next (finish (sightingStep l g s)) := by
  simp [execSightingStepEnd, State.runs, h0, h1, h2, h3]

/-- A fusion that ends with an install held takes the install up (R38). -/
theorem takeUp_of_held {s : State} (h : s.agree.staging.held = true) : takeUp s = install s := by simp [takeUp, h]

/-- A fusion that ends with none held starts the waiting label, if any (R38). -/
theorem takeUp_of_free {s : State} (h : s.agree.staging.held = false) : takeUp s = startWaiting s := by simp [takeUp, h]

/-- A re-estimate keeps all but the four velocity fields. -/
theorem reestimate_keeps (p : Profile) (f : Front) : (reestimate p f).1 = { f with
    vx := (reestimate p f).1.vx, vy := (reestimate p f).1.vy
    valid := (reestimate p f).1.valid, stalled := (reestimate p f).1.stalled } := by
  unfold reestimate
  split
  · dsimp only
    split_ifs <;> rfl
  · rfl

/-- A promotion changes at most the state. -/
theorem promote_keeps (f : Front) : promote f = { f with state := (promote f).state } := by
  unfold promote; split <;> rfl

/-- The derived fields and the reports of a placement, by the front that it leaves. -/
theorem placeInFront_derived (p : Profile) (f : Front) (g : Sighting) (f' : Front) (h : f' = (placeInFront p f g).1) :
    f'.track = trimTrack (insertEntry g.toEntry f.track)
    ∧ (f'.dustI, f'.peakI, f'.arrivals) = (dustIntensity f'.track, peakIntensity f'.track, (arrivalList p f').1)
    ∧ (placeInFront p f g).2 = (reestimate p { f with track := f'.track }).2
        ++ unsetReport 2 f'.dustI ++ unsetReport 3 f'.peakI ++ (arrivalList p f').2 := by
  subst h
  simp only [placeInFront, recompute, ← List.append_assoc]
  rw [promote_keeps, reestimate_keeps]
  exact ⟨rfl, rfl, rfl⟩

/-! ## The reports of an install -/

/-- Two states that reports treat alike: they agree on what a report reads and writes, but that the first has ZONE_RAISED
raised besides when `b` holds. -/
structure ReportsAlike (b : Bool) (s u : State) : Prop where
  loader : s.loader = u.loader
  exc : s.exc = u.exc
  disabled : ∀ c : Counters, c.withDisabled s.counters = c.withDisabled u.counters
  events : s.panel.events = withEvent b .zoneRaised u.panel.events

/-- The order of two raises does not show. -/
theorem withEvent_comm (b c : Bool) (d e : StatusEvent) (set : Word16) :
    withEvent b d (withEvent c e set) = withEvent c e (withEvent b d set) := by
  cases b <;> cases c <;> simp [withEvent, BitVec.or_assoc, BitVec.or_comm d.mask]

/-- They stay so after a report. -/
theorem ReportsAlike.report {b : Bool} {s u : State} (h : ReportsAlike b s u) (ctx : ExcContext) (x : ExcReport) :
    ReportsAlike b (report ctx s x) (report ctx u x) := by
  obtain ⟨h1, h2, h3, h4⟩ := h
  have he : s.excEnabled x.code = u.excEnabled x.code := by simp only [State.excEnabled, h1]
  have hd : s.reportDisable = u.reportDisable := by simp only [State.reportDisable, h1]
  refine ⟨h1, by simp only [Machine.report, he, h2], fun c => ?_, ?_⟩
  · have h5 := h3 c
    simp only [Counters.withDisabled, Counters.mk.injEq, true_and] at h5
    obtain ⟨a1, a2, a3, a4, a5⟩ := h5
    simp only [Machine.report, he]
    split
    · exact h3 c
    · cases x.code <;> simp [Counters.withDisabled, Counters.incDisabled, a1, a2, a3, a4, a5]
  · simp only [Machine.report, he, hd, h4, withEvent_comm b]

/-- And after reports in a row. -/
theorem ReportsAlike.reportAll {b : Bool} {s u : State} (h : ReportsAlike b s u) (ctx : ExcContext)
    (xs : List ExcReport) : ReportsAlike b (reportAll ctx xs s) (reportAll ctx xs u) := by
  induction xs generalizing s u with
  | nil => exact h
  | cons x xs ih => exact ih (h.report ctx x)

/-- And after the reports of a whole table. -/
theorem ReportsAlike.reportSlots {b : Bool} {s u : State} (h : ReportsAlike b s u) (p : Profile) (label : Word16)
    (xs : List (Front × Nat)) :
    ReportsAlike b (xs.foldl (reportSlot p label) s) (xs.foldl (reportSlot p label) u) := by
  induction xs generalizing s u with
  | nil => exact h
  | cons x xs ih =>
    refine ih ?_
    unfold reportSlot
    split
    · exact h.reportAll _ _
    · exact h

/-- The reports of an install, read off the table that it leaves (R61). -/
theorem reportSlots_eq (p : Profile) (label : Word16) (slots : List Front) (k : Nat) (s : State) :
    (slots.zipIdx k).foldl (reportSlot p label) s
      = (((slots.map (recomputeSlot p)).zipIdx k).filter (fun x => x.1.state != .free)).foldl
          (fun u x =>
            ((if x.1.dustI = none then [(⟨.unsetOperand, 2⟩ : ExcReport)] else [])
              ++ (if x.1.peakI = none then [(⟨.unsetOperand, 3⟩ : ExcReport)] else [])
              ++ (arrivalList p x.1).2).foldl (report ⟨x.1.id, x.2, none, label⟩) u) s := by
  induction slots generalizing k s with
  | nil => rfl
  | cons f fs ih =>
    simp only [List.zipIdx_cons, List.map_cons, List.foldl_cons, List.filter_cons]
    by_cases h : f.state = .free
    · have ho : f.occupied = false := by simp [Front.occupied, h]
      simp [reportSlot, recomputeSlot, ho, h, ih]
    · have ho : f.occupied = true := by simp [Front.occupied, h]
      have hs : (f.state != .free) = true := by simpa using h
      simp only [reportSlot, recomputeSlot, ho, if_true, ih, recompute, unsetReport_eq, reportAll, hs, List.foldl_cons]
      rfl

/-- The reports of an install, entry and evaluation, from a state `v` that reports treat alike (R61, R146). -/
theorem install_effects {b raised : Bool} {s v w : State} (h : ReportsAlike b s v) (ht : s.trace = v.trace)
    (htime : s.time = v.time) (hl : s.line = v.line)
    (hw : w = (((s.agree.staging.table s.profile).slots.zipIdx).filter (fun x => x.1.state != .free)).foldl
          (fun u x =>
            ((if x.1.dustI = none then [(⟨.unsetOperand, 2⟩ : ExcReport)] else [])
              ++ (if x.1.peakI = none then [(⟨.unsetOperand, 3⟩ : ExcReport)] else [])
              ++ (arrivalList s.profile x.1).2).foldl (report ⟨x.1.id, x.2, none, s.agree.staging.label⟩) u) v)
    (hr : raised = s.warn.zones.any (fun z =>
      raisesLoud (({ s with table := s.agree.staging.table s.profile }).computed z.zone) z)) :
    (install s).exc = w.exc
    ∧ (install s).counters = { s.counters.withDisabled w.counters with
        transfersInstalled := satInc s.counters.transfersInstalled }
    ∧ (install s).trace = (offer .transferInstalled (some s.agree.staging.source) (some .transfer)
        (.count s.agree.staging.expected) w).trace
    ∧ (install s).panel = { s.panel with events := withEvent raised .zoneRaised (withEvent b .zoneRaised
        (offer .transferInstalled (some s.agree.staging.source) (some .transfer)
          (.count s.agree.staging.expected) w).panel.events) } := by
  have h0 : ReportsAlike b { s with
      table := s.agree.staging.table s.profile
      fusion := { s.fusion with fusing := none, waiting := none, stopping := false } } v :=
    ⟨h.loader, h.exc, h.disabled, h.events⟩
  have h1 := h0.reportSlots s.profile s.agree.staging.label (s.agree.staging.slots s.profile.zoneCount).zipIdx
  have hw' : w = ((s.agree.staging.slots s.profile.zoneCount).zipIdx).foldl
      (reportSlot s.profile s.agree.staging.label) v := by rw [reportSlots_eq, hw]; rfl
  rw [← hw'] at h1
  have h2 := reportSlots_frame s.profile s.agree.staging.label (s.agree.staging.slots s.profile.zoneCount).zipIdx v
  rw [← hw'] at h2
  unfold install
  simp only
  generalize hg : List.foldl (reportSlot s.profile s.agree.staging.label) _ _ = g at h1
  have h3 := reportSlots_frame s.profile s.agree.staging.label (s.agree.staging.slots s.profile.zoneCount).zipIdx { s with
      table := s.agree.staging.table s.profile
      fusion := { s.fusion with fusing := none, waiting := none, stopping := false } }
  rw [hg] at h3
  have hwt : w.trace = v.trace := (congrArg State.trace h2 :)
  have hwm : w.time = v.time := (congrArg State.time h2 :)
  have hwl : w.line = v.line := (congrArg State.line h2 :)
  have hgt : g.trace = s.trace := (congrArg State.trace h3 :)
  have hgm : g.time = s.time := (congrArg State.time h3 :)
  have hgl : g.line = s.line := (congrArg State.line h3 :)
  have hgp : g.panel = { s.panel with events := g.panel.events } := (congrArg State.panel h3 :)
  have hgc : g.counters = s.counters.withDisabled w.counters :=
    (congrArg State.counters h3 :).trans (h1.disabled _)
  refine ⟨h1.exc, ?_, ?_, ?_⟩
  · simp [hgc, Counters.withDisabled]
  · simp [offer, State.entryFor, hgt, hgm, hgl, hwt, hwm, hwl, ht, htime, hl]
  · have hgd : g.detector = s.detector := (congrArg State.detector h3 :)
    have hgo : g.loader = s.loader := (congrArg State.loader h3 :)
    have hgb : g.table = s.agree.staging.table s.profile := (congrArg State.table h3 :)
    have hgw : g.warn = s.warn := (congrArg State.warn h3 :)
    simp only [evaluate, raiseIf, withZones, offer, State.entryFor, hgt, hgm, hgl, hwt, hwm, hwl, ht, htime, hl, hgw, hr,
      h1.events, State.computed, hgd, hgb, State.profile, hgo, withEvent_comm b]
    rw [hgp]

/-- The table of a staging, slot by slot: the carried record with its derived fields recomputed, or the empty record
(R14, R144). -/
theorem Staging.table_slots (p : Profile) (g : Staging) :
    (g.table p).slots.length = 8
    ∧ (∀ i : Fin 8, (∀ x, g.staged.find? (fun x => x.1 == i) = some x →
          ∃ f, (g.table p).slots[i.val]? = some f
            ∧ (f.state, f.id, f.stalled, f.valid, f.vx, f.vy, f.track)
              = (x.2.state, x.2.id, x.2.stalled, x.2.valid, x.2.vx, x.2.vy, x.2.track)
            ∧ (x.2.state ≠ .free → f.dustI = dustIntensity x.2.track ∧ f.peakI = peakIntensity x.2.track
              ∧ f.arrivals = (arrivalList p x.2).1))
        ∧ (g.staged.find? (fun x => x.1 == i) = none →
          (g.table p).slots[i.val]? = some (Front.empty p.zones.length))) := by
  refine ⟨by simp [Staging.table, Staging.slots], fun i => ⟨fun x hx => ?_, fun hx => ?_⟩⟩
  · refine ⟨recomputeSlot p x.2, ?_, ?_, ?_⟩
    · simp [Staging.table, Staging.slots, hx]
    · unfold recomputeSlot; split <;> rfl
    · intro h
      have : x.2.occupied = true := by simp [Front.occupied, h]
      simp [recomputeSlot, this, recompute]
  · simp [Staging.table, Staging.slots, hx, recomputeSlot, Front.occupied, Front.empty, Profile.zoneCount]


/-- The history answers a pair that has just been stored (R130). -/
theorem historyOf_storePair (h : List (Word16 × Word16)) (label digest : Word16) :
    historyOf (storePair h label digest) label = some digest := by
  simp only [historyOf, storePair]
  rw [List.find?_append]
  have : ∀ L : List (Word16 × Word16), (∀ x ∈ L, x.1 ≠ label) → L.find? (fun x => x.1 == label) = none := by
    intro L hL; rw [List.find?_eq_none]; intro x hx; simpa using hL x hx
  rw [this]
  · simp
  · intro x hx
    split at hx
    · simpa using (List.mem_filter.1 hx).2
    · simpa using (List.mem_filter.1 (List.mem_of_mem_drop hx)).2


/-- A raise that counts as loud is one to WARN or ALARM (R169). -/
theorem raisesLoud_eq (c : Level × Source) (z : Zone) :
    raisesLoud c z = decide (z.level.rank < c.1.rank ∧ (c.1 = .warn ∨ c.1 = .alarm)) := by
  obtain ⟨a, q⟩ := c
  unfold raisesLoud
  generalize z.level = l
  cases a <;> cases l <;> rfl

/-! ## The responder -/

/-- The responder is the lowest entry that meets the three conditions (R137). -/
theorem responder_eq_some {s : State} {n : Nat} : s.responder = some n ↔
    (∃ e, s.roster.entries[n]? = some e ∧ meetsResponder s.agree.group e n = true)
      ∧ ∀ (j : Nat) (e : RosterEntry), j < n → s.roster.entries[j]? = some e →
          meetsResponder s.agree.group e j = false := by
  simp only [State.responder, Option.map_eq_some_iff]
  constructor
  · rintro ⟨⟨e, i⟩, h, hi⟩
    simp only at hi
    subst hi
    rw [List.find?_eq_some_iff_getElem] at h
    obtain ⟨hp, n, hn, he, hall⟩ := h
    simp at he
    obtain ⟨he, rfl⟩ := he
    simp at hn
    refine ⟨⟨e, by rw [← he, List.getElem?_eq_getElem hn], hp⟩, fun j e' hj hj' => ?_⟩
    have h1 := hall j hj
    rw [List.getElem?_eq_getElem (by omega)] at hj'
    cases hj'
    simpa using h1
  · rintro ⟨⟨e, he, hp⟩, hall⟩
    obtain ⟨hn, he'⟩ := List.getElem?_eq_some_iff.1 he
    refine ⟨(e, n), ?_, rfl⟩
    rw [List.find?_eq_some_iff_getElem]
    refine ⟨hp, n, by simpa using hn, by simpa using he', fun j hj => ?_⟩
    simpa using hall j _ hj (List.getElem?_eq_getElem (by omega))

/-- A snapshot holds at least one frame (R139). -/
theorem snapshot_ne_nil (s : State) : s.snapshot ≠ [] := by
  simp only [State.snapshot]
  split
  · simp
  · rename_i h
    simp only [FrontTable.occupiedCount, List.length_eq_zero_iff, List.filter_eq_nil_iff] at h
    push Not at h
    obtain ⟨f, hf, ho⟩ := h
    obtain ⟨i, hi, rfl⟩ := List.getElem_of_mem hf
    simp only [ne_eq, List.map_eq_nil_iff, List.filter_eq_nil_iff]
    push Not
    refine ⟨(s.table.slots[i], i), ?_, by simpa using ho⟩
    rw [List.mem_zipIdx_iff_getElem?]
    simp [hi]

/-- Frames are handed over exactly when the station sends a transfer (R138). -/
theorem transferFrames_ne_nil {s : State} : s.transferFrames ≠ [] ↔ s.sendsTransfer = true := by
  simp only [State.transferFrames]
  cases s.sendsTransfer <;> simp [snapshot_ne_nil]

/-! ## Evaluations and generators -/

/-- The computed levels of two states that agree on what R167 and R168 read. -/
theorem computed_congr {s u : State} (hl : s.loader = u.loader) (ht : s.table = u.table)
    (hd : s.detector.localOverride = u.detector.localOverride) (hy : s.time.yardClock = u.time.yardClock) (z : Fin 8) :
    s.computed z = u.computed z := by
  have hp : s.profile = u.profile := by unfold State.profile; rw [hl]
  simp only [State.computed, hp, ht, hd, hy]

/-- Two states that agree on what an evaluation reads have the same zone records after it (R166). -/
theorem evaluate_zones_congr {s u : State} (hl : s.loader = u.loader) (ht : s.table = u.table)
    (hd : s.detector.localOverride = u.detector.localOverride) (hy : s.time.yardClock = u.time.yardClock)
    (hw : s.warn.zones = u.warn.zones) : (evaluate s).warn.zones = (evaluate u).warn.zones := by
  have hp : s.profile = u.profile := by unfold State.profile; rw [hl]
  simp only [evaluate, raiseIf, withZones, computed_congr hl ht hd hy, hp, hw]

/-- And the same Warning Unit, where the modes and generators agree too. -/
theorem evaluate_warn_congr {s u : State} (hl : s.loader = u.loader) (ht : s.table = u.table)
    (hd : s.detector.localOverride = u.detector.localOverride) (hy : s.time.yardClock = u.time.yardClock)
    (hm : s.mode = u.mode) (hw : s.warn = u.warn) : (evaluate s).warn = (evaluate u).warn := by
  have hp : s.profile = u.profile := by unfold State.profile; rw [hl]
  simp only [evaluate, raiseIf, withZones, computed_congr hl ht hd hy, hp, hw, hm]

/-- And raise ZONE_RAISED alike. -/
theorem evaluate_raised_congr {s u : State} (hl : s.loader = u.loader) (ht : s.table = u.table)
    (hd : s.detector.localOverride = u.detector.localOverride) (hy : s.time.yardClock = u.time.yardClock)
    (hw : s.warn.zones = u.warn.zones) (he : s.panel.events.getLsbD 5 = u.panel.events.getLsbD 5) :
    (evaluate s).panel.events.getLsbD 5 = (evaluate u).panel.events.getLsbD 5 := by
  simp only [evaluate, raiseIf, withZones, computed_congr hl ht hd hy, hw, withEvent]
  split
  · rw [BitVec.getLsbD_or, BitVec.getLsbD_or, he]
  · exact he

/-- An evaluation hands the generators the wanted patterns of its zone records (R175). -/
theorem evaluate_warn (s : State) : (evaluate s).warn = (withZones (evaluate s).warn.zones s).warn := rfl

/-- Under the local override an evaluation takes every owned zone to ALARM with source LOCAL (R168). -/
theorem evaluate_override {s : State} (h : s.detector.localOverride = true) :
    ∀ z ∈ (evaluate s).warn.zones, z.level = .alarm ∧ z.source = .ownGust := by
  intro z hz
  simp only [evaluate, raiseIf, withZones, List.mem_map, State.computed, h, if_true] at hz
  obtain ⟨y, -, rfl⟩ := hz
  unfold applyLevel
  cases y.level <;> simp [Level.rank]

/-- A generator that has been handed its pattern is not handed it again (R175). -/
theorem refreshGens_idem (z : List Zone) (g : List Gen) : refreshGens z (refreshGens z g) = refreshGens z g := by
  simp only [refreshGens, List.mapIdx_mapIdx]
  congr 1
  funext k x
  simp only [Function.comp, Gen.refresh]
  split
  · rfl
  · have : (x.hand (wantedAt z k)).handed = wantedAt z k := by
      unfold Gen.hand
      (repeat' split) <;> simp_all
    rw [if_pos this.symm]

/-- The end of a command leaves the Warning Unit alone, unless it enters LULL. -/
theorem finishAt_warn (b : Nat) (s : State) (h : (finishAt b s).mode = s.mode) : (finishAt b s).warn = s.warn := by
  by_cases hl : s.lullReady = true
  · rw [finishAt_of_ready hl] at h
    have : s.mode = .active := by
      by_contra hc
      rw [lullReady_of_mode hc] at hl
      cases hl
    simp [enterLull, this] at h
  · rw [finishAt_of_not_ready (by simpa using hl)]

/-! ## Bytes -/

/-- A 16-bit field read back. -/
@[simp] theorem ofBe16_be16 (w : Word16) : ofBe16 (w.extractLsb' 8 8) (w.extractLsb' 0 8) = w := by
  apply BitVec.eq_of_getLsbD_eq
  intro i hi
  simp only [ofBe16, BitVec.getLsbD_append, BitVec.getLsbD_extractLsb']
  split
  · simp [*]
  · rw [show 8 + (i - 8) = i by omega, decide_eq_true (by omega), Bool.true_and]

/-- A 32-bit field read back. -/
@[simp] theorem ofBe32_be32 (w : Tick) :
    ofBe32 (w.extractLsb' 24 8) (w.extractLsb' 16 8) (w.extractLsb' 8 8) (w.extractLsb' 0 8) = w := by
  apply BitVec.eq_of_getLsbD_eq
  intro i hi
  simp only [ofBe32, BitVec.getLsbD_append, BitVec.getLsbD_extractLsb']
  (repeat' split) <;> rw [decide_eq_true (by omega), Bool.true_and] <;> congr 1 <;> omega

end Sys2Proof.Machine
end

