-- ==== Sys2Proof/WellFormed.lean ====
section
/-! DEFINITION. Which command terms can arise: the bounds that the book puts on the operands themselves,
whatever the state. A meaning does not read this check. -/

namespace Sys2Proof

/-- The command codes of R195. -/
def knownCodes : List Byte :=
  [0x10, 0x11, 0x20, 0x21, 0x22, 0x23, 0x30, 0x31, 0x40, 0x41, 0x50, 0x51, 0x60, 0x7E]

/-- R193: the argument count is one byte. -/
def argsOk (args : List Byte) : Bool := args.length ≤ 255

/-- R86, R88: characters that can be a whole frame of the kind coded `k` in bits 7..6 of the header byte:
the start delimiter, a header of that kind, a length of at most 64 and at least the two CRC bytes. -/
def framedAs (k : Nat) (frame : List RxChar) : Bool :=
  match frame with
  | d :: h :: l :: rest =>
    d.value == 0x6B && h.value.toNat / 64 == k && l.value.toNat ≤ 64 && rest.length == l.value.toNat + 2
  | _ => false

/-- The bounds on a command's operands. FRAME_REJECTED may carry no character: so ends, by the model's choice, the
collecting after an own mismatch in the first start bit where the receiver returns nothing (R100, R104, log 50). -/
def Instr.wellFormed : Instr → Bool
  | .powerOn | .resetAsserted | .resetReleased => true
  | .loadAttemptEnd _ image _ _ => image.length == 320          -- R202: 320 bytes are clocked in
  | .loadRetryDelayExpiry _ => true
  | .panelTransactionCut => true
  | .panelUnknownCommand code args => !knownCodes.contains code && argsOk args   -- R194 test 1
  | .readStatus args | .clearStatus args | .readFront args | .readRoster args | .readZone args
  | .acknowledgeZone args | .readException args | .clearException args | .readTrace args
  | .armTrace args | .readCounters args | .clearCounters args | .readConfig args | .restart args => argsOk args
  | .warmRestart _ _ => true
  | .anemometerEdge offset => offset ≤ 101                       -- R63, R158: one tick is 100 capture units
  | .vaneCodeChange _ | .dustPulse | .dustReadyLow | .samplePeriodEnd _ | .refractoryExpiry => true
  | .listenTimerExpiry | .openTimerExpiry | .receiverQuietWaitEnd | .silenceTimeout => true
  | .planFix | .nextFrameStart | .frameRepeat => true
  | .markReceived frame => framedAs 0 frame
  | .presenceReceived frame => framedAs 1 frame
  | .sightingReceived frame => framedAs 2 frame
  | .transferReceived frame => framedAs 3 frame
  | .frameRejected _ => true                                     -- R86, R90: any characters (none: log 50)
  | .echoFail | .markCollision | .markSent | .frameSent => true
  | .sightingStepEnd | .closingStepEnd | .perSecondEvaluation => true
  | .holdExpiry _ | .patternPeriodEnd _ => true
  | .calibrationWindowEnd count => count < 65536                 -- R162: a count of at most 500 ms of clock edges
  | .wakeTimerExpiry | .localTick | .frameStart => true

end Sys2Proof
end

