-- ==== Sys2Proof/Laws/PerInstr.lean ====
section
/-! SUPPORT. The bounds that a well-formed command keeps on the lists it carries, one lemma per command. -/

namespace Sys2Proof.Laws.Bounds

/-- The argument bytes of a panel transaction; no other command carries any. -/
def argCount : Instr → Nat
  | .panelUnknownCommand _ args => args.length
  | .readStatus args | .clearStatus args | .readFront args | .readRoster args | .readZone args
  | .acknowledgeZone args | .readException args | .clearException args | .readTrace args
  | .armTrace args | .readCounters args | .clearCounters args | .readConfig args | .restart args => args.length
  | _ => 0

/-- The characters of a frame that the receive checks take; none for any other command. -/
def frameCount : Instr → Option Nat
  | .markReceived frame | .presenceReceived frame | .sightingReceived frame | .transferReceived frame =>
    some frame.length
  | _ => none

/-- At most 255 argument bytes (R193), and 5 to 69 characters in a whole frame (R86, R88). -/
def Statement (i : Instr) : Prop :=
  i.wellFormed = true → argCount i ≤ 255 ∧ ∀ n, frameCount i = some n → 5 ≤ n ∧ n ≤ 69

/-- The bound that the operand check puts on argument bytes. -/
theorem argsOk_length {args : List Byte} (h : argsOk args = true) : args.length ≤ 255 := of_decide_eq_true h

/-- The characters of a whole frame. -/
theorem framed_length {k : Nat} {frame : List RxChar} (h : framedAs k frame = true) :
    5 ≤ frame.length ∧ frame.length ≤ 69 := by
  unfold framedAs at h
  split at h
  · simp at h
    simp only [List.length_cons]
    omega
  · simp at h

/-- A command that carries no frame keeps the bounds by its argument bytes. -/
theorem of_args {i : Instr} (h : i.wellFormed = true → argCount i ≤ 255) (hf : frameCount i = none) : Statement i :=
  fun hw => ⟨h hw, fun n hn => by rw [hf] at hn; cases hn⟩

/-- A command that carries a frame keeps the bounds by its characters. -/
theorem of_frame {i : Instr} {frame : List RxChar} (ha : argCount i = 0) (hf : frameCount i = some frame.length)
    (h : i.wellFormed = true → 5 ≤ frame.length ∧ frame.length ≤ 69) : Statement i :=
  fun hw => ⟨by rw [ha]; exact Nat.zero_le _, fun n hn => by rw [hf] at hn; cases hn; exact h hw⟩

theorem powerOn : Statement .powerOn := of_args (fun _ => Nat.zero_le _) rfl

theorem resetAsserted : Statement .resetAsserted := of_args (fun _ => Nat.zero_le _) rfl

theorem resetReleased : Statement .resetReleased := of_args (fun _ => Nat.zero_le _) rfl

theorem loadAttemptEnd (straps : Station) (image : List Byte) (vane : BitVec 4) (dustReady : Bool) :
    Statement (.loadAttemptEnd straps image vane dustReady) := of_args (fun _ => Nat.zero_le _) rfl

theorem loadRetryDelayExpiry (straps : Station) : Statement (.loadRetryDelayExpiry straps) :=
  of_args (fun _ => Nat.zero_le _) rfl

theorem panelTransactionCut : Statement .panelTransactionCut := of_args (fun _ => Nat.zero_le _) rfl

theorem panelUnknownCommand (code : Byte) (args : List Byte) : Statement (.panelUnknownCommand code args) :=
  of_args (fun h => argsOk_length (Bool.and_eq_true_iff.mp h).2) rfl

theorem readStatus (args : List Byte) : Statement (.readStatus args) := of_args argsOk_length rfl

theorem clearStatus (args : List Byte) : Statement (.clearStatus args) := of_args argsOk_length rfl

theorem readFront (args : List Byte) : Statement (.readFront args) := of_args argsOk_length rfl

theorem readRoster (args : List Byte) : Statement (.readRoster args) := of_args argsOk_length rfl

theorem readZone (args : List Byte) : Statement (.readZone args) := of_args argsOk_length rfl

theorem acknowledgeZone (args : List Byte) : Statement (.acknowledgeZone args) := of_args argsOk_length rfl

theorem readException (args : List Byte) : Statement (.readException args) := of_args argsOk_length rfl

theorem clearException (args : List Byte) : Statement (.clearException args) := of_args argsOk_length rfl

theorem readTrace (args : List Byte) : Statement (.readTrace args) := of_args argsOk_length rfl

theorem armTrace (args : List Byte) : Statement (.armTrace args) := of_args argsOk_length rfl

theorem readCounters (args : List Byte) : Statement (.readCounters args) := of_args argsOk_length rfl

theorem clearCounters (args : List Byte) : Statement (.clearCounters args) := of_args argsOk_length rfl

theorem readConfig (args : List Byte) : Statement (.readConfig args) := of_args argsOk_length rfl

theorem restart (args : List Byte) : Statement (.restart args) := of_args argsOk_length rfl

theorem warmRestart (vane : BitVec 4) (dustReady : Bool) : Statement (.warmRestart vane dustReady) :=
  of_args (fun _ => Nat.zero_le _) rfl

theorem anemometerEdge (offset : Nat) : Statement (.anemometerEdge offset) :=
  of_args (fun _ => Nat.zero_le _) rfl

theorem vaneCodeChange (code : BitVec 4) : Statement (.vaneCodeChange code) :=
  of_args (fun _ => Nat.zero_le _) rfl

theorem dustPulse : Statement .dustPulse := of_args (fun _ => Nat.zero_le _) rfl

theorem dustReadyLow : Statement .dustReadyLow := of_args (fun _ => Nat.zero_le _) rfl

theorem samplePeriodEnd (dustReady : Bool) : Statement (.samplePeriodEnd dustReady) :=
  of_args (fun _ => Nat.zero_le _) rfl

theorem refractoryExpiry : Statement .refractoryExpiry := of_args (fun _ => Nat.zero_le _) rfl

theorem listenTimerExpiry : Statement .listenTimerExpiry := of_args (fun _ => Nat.zero_le _) rfl

theorem openTimerExpiry : Statement .openTimerExpiry := of_args (fun _ => Nat.zero_le _) rfl

theorem receiverQuietWaitEnd : Statement .receiverQuietWaitEnd := of_args (fun _ => Nat.zero_le _) rfl

theorem silenceTimeout : Statement .silenceTimeout := of_args (fun _ => Nat.zero_le _) rfl

theorem planFix : Statement .planFix := of_args (fun _ => Nat.zero_le _) rfl

theorem nextFrameStart : Statement .nextFrameStart := of_args (fun _ => Nat.zero_le _) rfl

theorem frameRepeat : Statement .frameRepeat := of_args (fun _ => Nat.zero_le _) rfl

theorem markReceived (frame : List RxChar) : Statement (.markReceived frame) := of_frame rfl rfl framed_length

theorem presenceReceived (frame : List RxChar) : Statement (.presenceReceived frame) :=
  of_frame rfl rfl framed_length

theorem sightingReceived (frame : List RxChar) : Statement (.sightingReceived frame) :=
  of_frame rfl rfl framed_length

theorem transferReceived (frame : List RxChar) : Statement (.transferReceived frame) :=
  of_frame rfl rfl framed_length

theorem frameRejected (frame : List RxChar) : Statement (.frameRejected frame) :=
  of_args (fun _ => Nat.zero_le _) rfl

theorem echoFail : Statement .echoFail := of_args (fun _ => Nat.zero_le _) rfl

theorem markCollision : Statement .markCollision := of_args (fun _ => Nat.zero_le _) rfl

theorem markSent : Statement .markSent := of_args (fun _ => Nat.zero_le _) rfl

theorem frameSent : Statement .frameSent := of_args (fun _ => Nat.zero_le _) rfl

theorem sightingStepEnd : Statement .sightingStepEnd := of_args (fun _ => Nat.zero_le _) rfl

theorem closingStepEnd : Statement .closingStepEnd := of_args (fun _ => Nat.zero_le _) rfl

theorem perSecondEvaluation : Statement .perSecondEvaluation := of_args (fun _ => Nat.zero_le _) rfl

theorem holdExpiry (channel : Fin 4) : Statement (.holdExpiry channel) := of_args (fun _ => Nat.zero_le _) rfl

theorem patternPeriodEnd (channel : Fin 4) : Statement (.patternPeriodEnd channel) :=
  of_args (fun _ => Nat.zero_le _) rfl

theorem calibrationWindowEnd (count : Nat) : Statement (.calibrationWindowEnd count) :=
  of_args (fun _ => Nat.zero_le _) rfl

theorem wakeTimerExpiry : Statement .wakeTimerExpiry := of_args (fun _ => Nat.zero_le _) rfl

theorem localTick : Statement .localTick := of_args (fun _ => Nat.zero_le _) rfl

theorem frameStart : Statement .frameStart := of_args (fun _ => Nat.zero_le _) rfl

end Sys2Proof.Laws.Bounds
end

