-- ==== Sys2Proof/Tests/Slice0.lean ====
section
/-! SUPPORT. Tests: ill-formed commands that the check refuses, worked examples of the book, and for every statement
with hypotheses a state and operands that meet them (`witness_<statement>`). -/

open Sys2Proof Sys2Proof.Machine

namespace Sys2Proof.Tests

set_option maxRecDepth 20000

/-! ## Well-formed commands -/

def manyArgs : List Byte := List.replicate 256 0

theorem test_wf_image : (Instr.loadAttemptEnd 0 (List.replicate 319 0) 0 true).wellFormed = false := by decide
theorem test_wf_code : (Instr.panelUnknownCommand 0x10 []).wellFormed = false := by decide
theorem test_wf_args : (Instr.readFront manyArgs).wellFormed = false := by decide
theorem test_wf_offset : (Instr.anemometerEdge 102).wellFormed = false := by decide
theorem test_wf_kind : (Instr.markReceived (cleanChars [0x6B, 0x40, 0, 0, 0])).wellFormed = false := by decide
theorem test_wf_length : (Instr.presenceReceived (cleanChars [0x6B, 0x40, 1, 0, 0])).wellFormed = false := by decide
theorem test_wf_delimiter : (Instr.sightingReceived (cleanChars [0x6A, 0x80, 0, 0, 0])).wellFormed = false := by decide
theorem test_wf_short : (Instr.transferReceived (cleanChars [0x6B])).wellFormed = false := by decide
theorem test_wf_none : (Instr.frameRejected []).wellFormed = true := by decide
theorem test_wf_count : (Instr.calibrationWindowEnd 65536).wellFormed = false := by decide
theorem test_wf_good : (Instr.readFront [0]).wellFormed = true ∧ (Instr.anemometerEdge 101).wellFormed = true
    ∧ (Instr.markReceived (cleanChars [0x6B, 0x20, 0, 0, 0])).wellFormed = true := by decide

/-! ## A small yard: four stations in a line, the own number 1, one zone -/

def yard : Profile :=
  { Profile.absent with
    stations := 4, positions := [(0, 0), (1000, 1000), (1400, 1300), (1800, 1600)], zones := [⟨2000, 1800, 100⟩]
    samplePeriodT := 50, airPerPulse := 400, gustMargin := 40, onsetClass := 2, sustain := 2
    dust1 := 20, dust2 := 60, dust3 := 150, refractoryT := 1000
    quietGapMs := 10000, alertGapMs := 100, staggerMs := 4, silenceMs := 4, burstLimit := 2, stepTolerance := 2
    lullAllowed := true, guardMs := 100, assocRadius := 300, pairingT := 12000, nominalSpeed := 800
    speedFloor := 50, speedCeiling := 3000, horizonT := 60000, decayT := 30000, releaseT := 12000
    alarmLeadT := 12000, warnLeadT := 30000, watchDistance := 600, strongGust := 150, holdT := 6000 }

def cfg : Loaded := ⟨[], 1, yard, 0, ⟨true, false, 1⟩, 0x1F, 0x1FC, ⟨.all, 0, 0, 0, 0x0040⟩⟩

def zoneAt (l : Level) : Zone := ⟨0, l, .none, none, false, true⟩

/-- The station in ACTIVE, cycle 5, its own opportunity running on an idle line. -/
def act : State :=
  { State.reset with
    mode := .active
    loader := ⟨.settled, 1, .none, some 1, some cfg⟩
    table := FrontTable.empty 1
    roster := Roster.restarted 4
    warn := Warn.restarted [zoneAt .clear]
    line := { Line.restarted with rx := .idle, opp := .number 1, silence := true, cycle := 5 }
    trace := { Trace.cold with settings := cfg.trace } }

def inMode (m : Mode) (s : State) : State := { s with mode := m }

def inOpp (o : Opp) (s : State) : State := { s with line := { s.line with opp := o } }

/-- The state that a command leads to. -/
def after (c : Instr) (s : State) : State :=
  match exec c s with
  | .next t => t
  | _ => s

/-- The state that a step leads to. -/
def stepped (s : State) : State :=
  match step s with
  | .next t => t
  | _ => s

/-! ## Restart and load -/

/-- On a board whose strap pins read 3. -/
def strapped (s : State) : State := { s with straps := 3 }

theorem witness_ColdRestartGivesTheColdValues :
    act.resetHeld = false ∧ (after .resetAsserted act).resetHeld = true
      ∧ (after .powerOn (after .resetAsserted act)).resetHeld = true
      ∧ (after .powerOn (strapped act)).loader = ⟨.attempt, 1, .none, some 3, none⟩
      ∧ (after .resetReleased (after .resetAsserted (strapped act))).loader = ⟨.attempt, 1, .none, some 3, none⟩
      ∧ (after .resetReleased act).mode = .active ∧ act.txen = .inactive ∧ (after .resetAsserted act).txen = .released
      ∧ (after .resetAsserted act).txd 0 = some .released ∧ (after .resetAsserted act).cselLine = .released := by decide

/-- Bytes put into an image. -/
def put (m : List Byte) (i : Nat) (bs : List Nat) : List Byte :=
  m.take i ++ bs.map byteOf ++ m.drop (i + bs.length)

def w16 (n : Nat) : List Nat := [n / 256, n % 256]

/-- An image of a yard of four stations that passes every test. -/
def imageBody : List Byte :=
  let m := put (List.replicate 318 0) 0 ([0x3A] ++ w16 320 ++ [4])
  let m := put m 4 (w16 100 ++ w16 100 ++ w16 600 ++ w16 100 ++ w16 1100 ++ w16 100 ++ w16 1600 ++ w16 100)
  let m := put m 132 ([1] ++ w16 2000 ++ w16 100 ++ w16 100)
  let m := put m 181 ([50] ++ w16 400 ++ [40, 2, 3] ++ w16 20 ++ w16 60 ++ w16 150 ++ [10, 10] ++ w16 100)
  let m := put m 197 ([4, 4, 2, 2, 1] ++ w16 100 ++ w16 300 ++ w16 120 ++ w16 800 ++ w16 50 ++ w16 3000 ++ w16 600)
  let m := put m 216 ([0] ++ w16 300 ++ w16 120 ++ w16 120 ++ w16 300 ++ w16 600 ++ w16 150 ++ w16 60 ++ [0x1F])
  put (put (put m 232 [1, 1]) 296 (w16 0x1FC)) 298 [1]

def image : List Byte := imageBody ++ be16 (crc16 imageBody)

def attempt (n : Nat) : State := { State.reset with loader := ⟨.attempt, n, .crc, some 0, none⟩ }

theorem witness_LoadAttemptsAreJudgedAndRetried :
    judgeImage 0 image = .none ∧ judgeImage 0 [] = .crc ∧ judgeImage 4 image = .strap
      ∧ (attempt 1).resetHeld = false ∧ (attempt 1).mode = .loading ∧ (attempt 1).loader.strap = some 0
      ∧ (attempt 1).cselLine = .low ∧ (attempt 1).cdo 6 = some .high ∧ (attempt 1).cdo 8 = some .low
      ∧ (after (.loadAttemptEnd 0 image 3 true) (after .powerOn State.reset)).mode = .listening
      ∧ (after (.loadAttemptEnd 0 image 3 true) (attempt 1)).warn.zones.map (fun z => (z.level, z.degraded))
        = [(.clear, true)]
      ∧ (after (.loadAttemptEnd 0 image 3 true) (attempt 1)).warn.gens.map (·.shown) = [.fault, .off, .off, .off]
      ∧ (after (.loadAttemptEnd 0 image 3 true) (attempt 1)).roster.entries.length = 4
      ∧ (after (.loadAttemptEnd 0 image 3 true) (attempt 2)).loader.reason = .crc
      ∧ (after (.loadAttemptEnd 7 [] 0 true) (attempt 2)).loader.phase = .retryDelay
      ∧ (after (.loadAttemptEnd 7 [] 0 true) (attempt 3)).mode = .configFault
      ∧ (after (.loadRetryDelayExpiry 2) (after (.loadAttemptEnd 7 [] 0 true) (attempt 2))).loader
        = ⟨.attempt, 3, .crc, some 2, none⟩
      ∧ (after (.loadAttemptEnd 7 [] 0 true) (attempt 2)).straps = 7 := by
  decide +kernel

def restarting (frozen : Bool) : State :=
  { act with panel := { act.panel with restartTaken := true }, trace := { act.trace with frozen := frozen } }

/-- A station in ACTIVE with one entry in its ring, or a full ring, and a RESTART taken. -/
def restartingWith (n : Nat) : State :=
  { restarting false with
    trace := { act.trace with ring := List.replicate n ⟨7, 0, .none, .frameIn, none, none, .none⟩ } }

/-- A station in CONFIG FAULT with a RESTART taken. -/
def restartingFault : State := inMode .configFault { restarting false with loader := ⟨.settled, 3, .crc, some 1, none⟩ }

theorem witness_WarmRestartKeepsClockTraceAndConfiguration :
    (restarting true).panel.restartTaken = true ∧ (restarting true).trace.frozen = true
      ∧ (restarting false).trace.frozen = false ∧ (restarting false).loader.loaded = some cfg
      ∧ (after (.warmRestart 5 true) (restarting false)).mode = .listening
      ∧ (after (.warmRestart 5 true) (restarting true)).trace = (restarting true).trace
      ∧ ((after (.warmRestart 5 true) (restartingWith 1)).trace.ring.map (·.kind)) = [.frameIn, .restart]
      ∧ (after (.warmRestart 5 true) (restartingWith 48)).trace.ring.length = 48
      ∧ ((after (.warmRestart 5 true) (restartingWith 48)).trace.ring.map (·.kind)).getLast? = some .restart
      ∧ (after (.warmRestart 5 true) (restarting false)).roster.entries.length = 4
      ∧ (after (.warmRestart 5 true) (restarting false)).warn.gens.map (·.shown) = [.fault, .off, .off, .off]
      ∧ restartingFault.loader.loaded = none ∧ (after (.warmRestart 5 true) restartingFault).mode = .loading
      ∧ (after (.warmRestart 5 true) restartingFault).loader = ⟨.attempt, 1, .crc, some 0, none⟩ := by decide

/-! ## The Panel Port -/

theorem witness_TransactionsAndReadingCommands :
    act.serves = true ∧ act.table.slots.length = 8 ∧ act.roster.entries.length = 4
      ∧ act.warn.zones[0]? = some (zoneAt .clear) ∧ act.loader.loaded = some cfg
      ∧ (after (.readFront [7]) act).panel.response.length = 99
      ∧ (after (.readRoster [3]) act).panel.response.length = 25
      ∧ (after (.readTrace [47]) act).panel.response.length = 17
      ∧ (after (.readZone [0]) act).panel.response = [1, 0, 0, 0, 0xFF, 0, 0, 0, 0, 0, 1]
      ∧ panelTransaction [0x22, 1, 0] = .readZone [0] ∧ panelTransaction [0x22, 2, 0] = .panelTransactionCut
      ∧ panelTransaction [0x12, 0] = .panelUnknownCommand 0x12 []
      ∧ (after (.readZone [0]) act).panel.incoming = some 3 ∧ (after (.readZone [0]) act).sdo true true 2 = some 0
      ∧ (after (.readZone [0]) act).sdo true true 3 = some 1 ∧ (after (.readZone [0]) act).sdo true true 14 = some 0 := by
  decide

theorem witness_PanelRefusesWithoutEffect :
    State.reset.mode = .loading ∧ (inMode .configFault State.reset).mode = .configFault ∧ act.serves = true
      ∧ (after (.readFront [8]) act).panel.response = [2] ∧ (after (.readRoster [4]) act).panel.response = [2]
      ∧ (after (.readZone [1]) act).panel.response = [2] ∧ (after (.readTrace [48]) act).panel.response = [2]
      ∧ (after (.readCounters [4]) act).panel.response = [2] ∧ (after (.readStatus [0]) act).panel.response = [2]
      ∧ (after (.readConfig []) State.reset).panel.response = [3]
      ∧ (inMode .lull act).serves = true ∧ (after (.restart [1]) (inMode .lull act)).mode = .active
      ∧ (after (.acknowledgeZone [1]) (inMode .lull act)).panel.response = [2]
      ∧ (after (.readFront [8]) (inMode .lull act)).mode = .lull
      ∧ (after (.panelUnknownCommand 0x12 []) State.reset).panel.response = [2] := by decide

def pendingEvents (e : Word16) (s : State) : State := { s with panel := { s.panel with events := e } }

/-- A station whose image masks every maskable event off. -/
def unmasked : State := { act with loader := { act.loader with loaded := some { cfg with masks := 0 } } }

theorem witness_ClearCommandsClearOnlyTheirOwn :
    act.resetHeld = false ∧ act.serves = true ∧ (after (.clearStatus [0, 1]) act).panel.events = 0
      ∧ (pendingEvents 1 act).attnLine = .low ∧ (pendingEvents 2 State.reset).attnLine = .low
      ∧ (pendingEvents 0 act).attnLine = .high ∧ (pendingEvents 4 act).attnLine = .low
      ∧ (pendingEvents 0x100 act).attnLine = .low ∧ (pendingEvents 4 unmasked).attnLine = .high := by decide

def alarmed : State := { act with warn := Warn.restarted [zoneAt .alarm] }

theorem witness_AcknowledgeAndRestartAreTaken :
    alarmed.warn.zones[0]? = some (zoneAt .alarm) ∧ alarmed.sirenOn 0 = true
      ∧ (after (.acknowledgeZone [0]) alarmed).sirenOn 0 = false ∧ act.warn.zones[0]? = some (zoneAt .clear)
      ∧ (inMode .lull act).warn.zones[0]? = some (zoneAt .clear) ∧ (inMode .lull act).serves = true
      ∧ (after (.acknowledgeZone [0]) act).panel.response = [2] ∧ (after (.restart []) act).panel.restartTaken = true := by
  decide

/-! ## Sensing -/

def sensing (x : Sensor) : State := { act with sensor := { x with periodLeft := some 0 }, time := { act.time with capture := 1000 } }

theorem witness_SensorInputsAreRecorded :
    act.mode.runs = true ∧ act.sensor.lastAccepted = none
      ∧ (sensing { Sensor.restarted with lastAccepted := some 981 }).sensor.chatters 1000 = true
      ∧ (sensing { Sensor.restarted with lastAccepted := some 980 }).sensor.chatters 1000 = false
      ∧ (after (.vaneCodeChange 1) act).sensor.faulted = false ∧ (after (.vaneCodeChange 3) act).sensor.faulted = true := by
  decide

/-- A window of sixteen Samples of 50 dm/s, so that the baseline is 50. -/
def steady : Detector :=
  { Detector.restarted with window := List.replicate 16 ⟨0, some 50, some 3, some 10, some 0⟩, priming := 16 }

/-- A quiet period about to end under a steady baseline. -/
def calm : State := { sensing Sensor.restarted with detector := steady }

/-- The state with one owned zone that stands as given. -/
def zoned (z : Zone) (s : State) : State := { s with warn := Warn.restarted [z] }

/-- The level and the source of each owned zone. -/
def levels (s : State) : List (Level × Source) := s.warn.zones.map (fun z => (z.level, z.source))

def sampled (x : Sensor) : Sample := (sensing x).sampleBuilt

theorem witness_SamplePeriodEndBuildsTheSample :
    (sampled { Sensor.restarted with chatter := 4, edges := 3 }).speed = none
      ∧ (sampled { Sensor.restarted with edges := 2, firstEdge := some 0, lastEdge := some 100 }).speed = some 400
      ∧ (sampled { Sensor.restarted with lastAccepted := some 900, lastPeriod := some 400 }).speed = some 100
      ∧ (sampled { Sensor.restarted with lastAccepted := some (1000 - 20001), lastPeriod := some 400 }).speed = some 0
      ∧ (sampled Sensor.restarted).speed = some 0 ∧ (sampled { Sensor.restarted with faulted := true }).sector = none
      ∧ (sampled { Sensor.restarted with vane := 8 }).sector = some 15
      ∧ (sampled { Sensor.restarted with notReady := true }).dust = none
      ∧ (sampled { Sensor.restarted with dustCount := 59 }).dust = some 1
      ∧ (sampled { Sensor.restarted with dustCount := 150 }).dust = some 3
      ∧ (after (.samplePeriodEnd true) (sensing Sensor.restarted)).sensor.periodLeft = some 50
      ∧ (after (.samplePeriodEnd true) (zoned (zoneAt .watch) calm)).warn.zones = [zoneAt .watch]
      ∧ (after (.samplePeriodEnd true) (zoned (zoneAt .watch) (sensing Sensor.restarted))).warn.zones.map (·.hold)
        = [some 6000] := by decide

/-- A period that ends with a speed of 400 dm/s and dust class 2 or 3. -/
def windy (dust : Word16) : Sensor :=
  { Sensor.restarted with edges := 2, firstEdge := some 0, lastEdge := some 100, dustCount := dust }

def rising : State :=
  { sensing (windy 150) with
    detector := { steady with state := .rising 1, run := some ⟨77, 120, some 2, some 9⟩ } }

theorem witness_SustainRunMakesAnOnset :
    rising.sensor.periodLeft = some 0 ∧ rising.profile.sustain ≤ 1 + 1
      ∧ 6 ≤ (rising.detector.push rising.sampleBuilt).baselineSpeeds.length ∧ rising.sampleBuilt.speed = some 400
      ∧ (rising.detector.push rising.sampleBuilt).baseline + rising.profile.gustMargin < 400
      ∧ rising.sampleBuilt.dust = some 3
      ∧ (after (.samplePeriodEnd true) rising).outbound
        = [⟨.onset, 1, 0, none, 77, some 400, some 0, some 3, false⟩]
      ∧ (after (.samplePeriodEnd true) (inMode .listening rising)).counters.outboundRefused = 1
      ∧ (after (.samplePeriodEnd true) (inMode .lull rising)).mode = .active
      ∧ (after (.samplePeriodEnd true) rising).detector.localOverride = true
      ∧ levels (after (.samplePeriodEnd true) rising) = [(.alarm, .ownGust)]
      ∧ levels (after (.samplePeriodEnd true) (inMode .lull rising)) = [(.alarm, .ownGust)]
      ∧ (after (.samplePeriodEnd true) rising).panel.events.getLsbD 5 = true := by decide

def easing (speed : Sensor) (st : DetectorState) : State :=
  { sensing speed with
    detector := { steady with
      state := st, gust := some ⟨4, some 9, 70, 130, some 2⟩, baselineAtOnset := some 50, firstEasing := some 90 } }

def refractory : State :=
  { act with detector := { steady with state := .refractory, refractoryLeft := some 0 } }

theorem witness_GustEndsAndRefractoryTimeRunsOut :
    (easing Sensor.restarted (.easing 1)).sampleBuilt.speed = some 0
      ∧ 6 ≤ ((easing Sensor.restarted (.easing 1)).detector.push
          (easing Sensor.restarted (.easing 1)).sampleBuilt).baselineSpeeds.length
      ∧ (after (.samplePeriodEnd true) (easing Sensor.restarted (.easing 1))).outbound
        = [⟨.subside, 1, 0, some 4, 90, some 130, some 9, some 2, false⟩]
      ∧ (after (.samplePeriodEnd true) (easing Sensor.restarted (.easing 1))).detector.refractoryLeft = some 1000
      ∧ (after (.samplePeriodEnd true) (zoned (zoneAt .alarm) (easing Sensor.restarted (.easing 1)))).warn.zones.map
        (·.hold) = [some 6000]
      ∧ refractory.detector.refractoryLeft = some 0 ∧ (after .refractoryExpiry refractory).detector.state = .calm := by
  decide

def blinded (st : DetectorState) : State :=
  { easing Sensor.restarted st with detector := { (easing Sensor.restarted st).detector with
      window := List.replicate 16 Sample.empty } }

theorem witness_BlindSampleEntersBlind :
    ((blinded .gusting).detector.push (blinded .gusting).sampleBuilt).baselineSpeeds.length < 6
      ∧ ((after (.samplePeriodEnd true) (blinded .gusting)).outbound.map (fun g => (g.time, g.cut))) = [(0, true)]
      ∧ ((after (.samplePeriodEnd true) (blinded (.easing 1))).outbound.map (fun g => (g.time, g.cut))) = [(90, true)]
      ∧ (after (.samplePeriodEnd true) (blinded .refractory)).detector.state = .blind
      ∧ (after (.samplePeriodEnd true) (zoned (zoneAt .alarm) (blinded .gusting))).warn.zones.map (·.hold) = [some 6000]
      ∧ (after (.samplePeriodEnd true) (blinded (.rising 1))).detector.state = .blind := by decide

def speedSample (v : Option Nat) (d : Option (Fin 4)) : Sample := ⟨7, v, some 3, d.map (·.val), d⟩

theorem witness_DetectorFollowsItsTables :
    6 ≤ (steady.push (speedSample (some 91) (some 2))).baselineSpeeds.length
      ∧ satisfies yard (steady.push (speedSample (some 91) (some 2))).baseline (speedSample (some 91) (some 2)) = true
      ∧ satisfies yard (steady.push (speedSample (some 90) none)).baseline (speedSample (some 90) none) = false
      ∧ satisfies yard 50 (speedSample (some 91) none) = true ∧ satisfies yard 50 (speedSample none (some 3)) = false
      ∧ satisfies yard 50 (speedSample (some 91) (some 1)) = false
      ∧ (steady.take yard 1 (speedSample (some 91) none) false).1.state = .rising 1
      ∧ (rising.detector.take { yard with sustain := 3 } 1 (speedSample (some 91) none) false).1.state = .rising 2
      ∧ ((easing Sensor.restarted .gusting).detector.take yard 1 (speedSample none none) false).1.state = .gusting
      ∧ ((easing Sensor.restarted (.easing 1)).detector.take yard 1 (speedSample (some 71) none) false).1.state = .gusting
      ∧ ({ (easing Sensor.restarted .gusting).detector with firstEasing := none }.take yard 1
          (speedSample (some 70) none) false).1.state = .easing 1
      ∧ ({ (easing Sensor.restarted .gusting).detector with firstEasing := none }.take yard 1
          (speedSample (some 70) (some 3)) false).1.gust = some ⟨4, some 9, 70, 130, some 3⟩
      ∧ ((easing Sensor.restarted (.easing 1)).detector.take { yard with sustain := 3 } 1
          (speedSample (some 99) (some 1)) false).1.state = .easing 2
      ∧ (refractory.detector.take yard 1 (speedSample (some 91) none) false).1.state = .refractory := by decide

def undusted : State :=
  { sensing { Sensor.restarted with notReady := true, faulted := true } with
    detector := { steady with dustRun := 7, vaneRun := 7 } }

/-- A station whose detector is still BLIND after `n` Samples. -/
def primed (n : Nat) : State :=
  { sensing Sensor.restarted with detector := { Detector.restarted with priming := n } }

theorem witness_SensorFaultFollowsItsConditions :
    6 ≤ (undusted.detector.push undusted.sampleBuilt).baselineSpeeds.length ∧ undusted.detector.condDust = false
      ∧ (after (.samplePeriodEnd true) undusted).detector.condDust = true
      ∧ (after (.samplePeriodEnd true) undusted).detector.sensorFault = true
      ∧ (after (.samplePeriodEnd true) undusted).panel.events.getLsbD 6 = true
      ∧ ((blinded .calm).detector.push (blinded .calm).sampleBuilt).baselineSpeeds.length < 6
      ∧ (blinded .calm).detector.condBlind = false ∧ (blinded .calm).detector.priming = 16
      ∧ (after (.samplePeriodEnd true) (blinded .calm)).detector.condBlind = true
      ∧ (after (.samplePeriodEnd true) (blinded .calm)).panel.events.getLsbD 6 = true
      ∧ (after (.samplePeriodEnd true) (primed 15)).detector.condBlind = true
      ∧ (after (.samplePeriodEnd true) (primed 14)).detector.condBlind = false := by decide

/-! ## Fusion (02_fusion_of_sightings.md, worked example) -/

def entry (i : Station) (sid : Byte) (t : Tick) : Entry := ⟨i, sid, t, some 140, some 10, some 2, false⟩

def trackedFront : Front :=
  { Front.empty 1 with
    state := .tracked, id := 15, valid := true, vx := 640, vy := 480
    track := [entry 1 21 500000, entry 2 60 506250] }

def formingFront : Front := { Front.empty 1 with state := .forming, id := 16, track := [entry 1 90 507000] }

def onsetAt (t : Tick) : Sighting := ⟨.onset, 3, 33, none, t, some 150, some 10, some 2, false⟩

/-- A difference of exactly 2^31 ticks, either way round (log 51). -/
theorem test_tickDiff_half : tickDiff 0x80000000 0 = -2147483648 ∧ tickDiff 0 0x80000000 = -2147483648
    ∧ tickDiff 0x7FFFFFFF 0 = 2147483647 := by decide

theorem witness_TrackedFrontPassesByItsResidual :
    trackedFront.track.head? = some (entry 1 21 500000) ∧ trackedFront.track.getLast? = some (entry 2 60 506250)
      ∧ trackedFront.hasStation 3 = false ∧ (slotTest yard (onsetAt 512500) trackedFront).1 = some 0
      ∧ (slotTest yard (onsetAt 499999) trackedFront).1 = none := by decide

/-- The thresholds of R32, and a step in each quadrant and along each axis. -/
theorem test_bearing :
    ([(0, 0), (1988, 10000), (1989, 10000), (6682, 10000), (14966, 10000), (50273, 10000)].map
        (fun d : Int × Int => bearing d.1 d.2)) = [4, 0, 1, 2, 3, 4]
      ∧ ([(1, -1), (-1, -1), (-1, 1), (0, -1), (-1, 0), (0, 1), (1, 0)].map (fun d : Int × Int => bearing d.1 d.2))
        = [6, 10, 14, 8, 12, 0, 4] := by decide

theorem witness_FormingFrontPassesByWindowSpeedAndBearing :
    formingFront.track.head? = some (entry 1 90 507000) ∧ formingFront.hasStation 3 = false
      ∧ (slotTest yard (onsetAt 517000) formingFront).1 = some 200
      ∧ (slotTest yard (onsetAt 507000) formingFront).1 = none
      ∧ (slotTest yard (onsetAt 519001) formingFront).1 = none
      ∧ slotTest yard (onsetAt 517000) { formingFront with track := [{ entry 1 90 507000 with sector := none }] }
        = (some 200, true)
      ∧ slotTest yard (onsetAt 517000) (Front.empty 1) = (none, false) := by decide

/-- A fusing label of one sighting over a table with a TRACKED and a FORMING front. -/
def fusing (g : Sighting) : State :=
  { act with
    table := ⟨[trackedFront, formingFront] ++ List.replicate 6 (Front.empty 1), 17, some 3⟩
    fusion := ⟨some ⟨5, []⟩, none, some ⟨4, 513300, [g]⟩, false⟩ }

/-- The same label over a FORMING front alone, whose origin has no sector. -/
def unsetOrigin (g : Sighting) : State :=
  { fusing g with
    table := { (fusing g).table with
      slots := { formingFront with track := [{ entry 1 90 507000 with sector := none }] }
        :: List.replicate 7 (Front.empty 1) } }

theorem witness_OnsetJoinsItsFront :
    (fusing (onsetAt 512500)).mode.runs = true
      ∧ bestSlot yard (onsetAt 512500) (fusing (onsetAt 512500)).table.slots = some 0
      ∧ (fusing (onsetAt 512500)).table.slots[0]? = some trackedFront
      ∧ ((after .sightingStepEnd (fusing (onsetAt 512500))).table.slots.map (fun f => f.track.length)).take 2
        = [3, 1]
      ∧ (after .sightingStepEnd (unsetOrigin (onsetAt 517000))).exc.lastCode = some .unsetOperand
      ∧ (after .sightingStepEnd (unsetOrigin (onsetAt 517000))).exc.frontId = some 16
      ∧ (after .sightingStepEnd (unsetOrigin (onsetAt 517000))).panel.events.getLsbD 2 = true := by decide

def full (st : FrontState) : State :=
  { fusing (onsetAt 1000000) with table := ⟨List.replicate 8 { formingFront with state := st }, 17, some 3⟩ }

theorem witness_NewFrontTakesTheRightSlotAndAFreeId :
    slotForNew 0 (fusing (onsetAt 0)).table.slots = some 2 ∧ slotForNew 0 (full .decaying).table.slots = some 0
      ∧ slotForNew 0 (full .forming).table.slots = none
      ∧ ((full .forming).table.slots.filter Front.occupied).length = 8
      ∧ assignId 255 (fusing (onsetAt 0)).table.slots = 255 ∧ assignId 15 (fusing (onsetAt 0)).table.slots = 17
      ∧ idAfter 255 = 1 := by decide

theorem witness_OnsetWithoutCandidateCreatesAFrontOrIsUnplaced :
    bestSlot yard (onsetAt 1000000) (fusing (onsetAt 1000000)).table.slots = none
      ∧ ((after .sightingStepEnd (fusing (onsetAt 1000000))).table.slots[2]?).map (·.id) = some 17
      ∧ bestSlot yard (onsetAt 1000000) (full .forming).table.slots = none
      ∧ (after .sightingStepEnd (full .forming)).counters.unplaced = 1
      ∧ (after .sightingStepEnd (fusing { onsetAt 1000000 with dust := none, peak := none })).exc.raw = 3
      ∧ (after .sightingStepEnd (fusing { onsetAt 1000000 with dust := none, peak := none })).exc.count = 2 := by decide

def subside (ref : Byte) : Sighting := ⟨.subside, 1, 91, some ref, 0, some 1, none, none, true⟩

/-- The same fusion in a yard whose horizon is short. -/
def farHorizon (g : Sighting) : State :=
  { fusing g with loader := { act.loader with loaded := some { cfg with profile := { yard with horizonT := 100 } } } }

theorem witness_SubsideMarksTheLowestMatchingEntry :
    (∃ e ∈ formingFront.track, e.station = 1 ∧ e.sid = 90) ∧ (∀ e ∈ trackedFront.track, ¬(e.station = 1 ∧ e.sid = 90))
      ∧ ((after .sightingStepEnd (fusing (subside 90))).table.slots[1]?).map (·.state) = some .decaying
      ∧ (after .sightingStepEnd (fusing (subside 99))).counters.subsideUnmatched = 1
      ∧ (after .sightingStepEnd (farHorizon (subside 21))).exc.lastCode = some .horizon
      ∧ (after .sightingStepEnd (farHorizon (subside 21))).exc.count = 1 := by decide

def closing (now : Tick) : State :=
  { fusing (onsetAt 0) with fusion := ⟨some ⟨5, []⟩, some ⟨5, 1, []⟩, some ⟨4, now, []⟩, false⟩ }

/-- A fusion that an overrun has stopped at its first step, with a label waiting since or an install held since. -/
def stopped (waiting : Option Label) (held : Bool) : State :=
  { fusing (onsetAt 512500) with
    fusion := { (fusing (onsetAt 512500)).fusion with waiting := waiting, stopping := true }
    agree := { act.agree with staging := { Staging.empty with active := held, held := held, label := 4 } } }

theorem witness_ClosingStepAgesTheTableAndStoresItsDigest :
    (closing 0).agree.staging.held = false
      ∧ ((after .closingStepEnd (closing 537000)).table.slots.map (·.state)).take 2 = [.decaying, .forming]
      ∧ ((after .closingStepEnd (closing 548250)).table.slots.map (·.state)).take 2 = [.decaying, .decaying]
      ∧ ((after .closingStepEnd (closing 549001)).table.slots.map (·.state)).take 2 = [.free, .free]
      ∧ (after .closingStepEnd (closing 0)).table.fusedThrough = some 4
      ∧ (after .closingStepEnd (zoned (zoneAt .watch) (closing 0))).warn.zones.map (·.hold) = [some 6000]
      ∧ (stopped none false).fusion.stopping = true
      ∧ (after .sightingStepEnd (stopped none false)).fusion.fusing = none
      ∧ (after .sightingStepEnd (stopped none false)).table.fusedThrough = some 3
      ∧ ((after .sightingStepEnd (stopped none false)).table.slots.map (fun f => f.track.length)).take 2 = [3, 1]
      ∧ (after .sightingStepEnd (stopped (some ⟨6, 1, []⟩) false)).fusion.fusing = some ⟨6, 1, []⟩
      ∧ (after .sightingStepEnd (stopped none true)).agree.installed = true := by decide +kernel

theorem witness_EqualTablesStayEqualUnderFusion :
    (closing 0).profile = (inMode .mute (closing 0)).profile ∧ (closing 0).table = (inMode .mute (closing 0)).table
      ∧ (after .closingStepEnd (closing 0)).table = (after .closingStepEnd (inMode .mute (closing 0))).table := by
  decide +kernel

def between (dt : Tick) (i : Station) : Front := { formingFront with track := [entry 1 90 507000, entry i 4 (507000 + dt)] }

theorem witness_VelocityIsMeasuredAndLimited :
    isqrt 1442209 = 1200 ∧ (reestimate yard (between 0 2)).2.map (·.code) = [.zeroInterval]
      ∧ (reestimate yard (between 1 2)).2.map (·.code) = [.speedCeiling]
      ∧ (reestimate yard (between 1000000 2)).2.map (·.code) = [.speedFloor]
      ∧ ((reestimate yard (between 6250 2)).1.vx, (reestimate yard (between 6250 2)).1.vy) = (640, 480) := by decide

theorem witness_ArrivalItemsFollowDistanceSpeedAndHorizon :
    (arrivalList yard trackedFront).1 = [.time 514783] ∧ (arrivalList yard formingFront).1 = [.none]
      ∧ (arrivalList { yard with zones := [⟨1400, 1300, 50⟩] } trackedFront).1 = [.time 506250]
      ∧ (arrivalList yard { trackedFront with vx := -640, vy := -480 }).1 = [.receding]
      ∧ arrivalList { yard with horizonT := 100 } trackedFront = ([.beyond], [⟨.horizon, 8533⟩])
      ∧ (arrivalList { yard with rounding := .nearest } trackedFront).1 = [.time 514784] := by decide

def ctx : ExcContext := ⟨15, 0, none, 4⟩

theorem witness_EnabledExceptionUpdatesTheRecord :
    act.loader.loaded = some cfg ∧ cfg.enables.getLsbD 4 = true ∧ cfg.enables.getLsbD 7 = false
      ∧ (report ctx act ⟨.horizon, 2147483648⟩).exc.raw = 0x7FFFFFFF
      ∧ (report ctx { act with exc := { act.exc with count := 255 } } ⟨.horizon, 0⟩).exc.count = 255 := by decide

def disabling : State := { act with loader := { act.loader with loaded := some { cfg with enables := 0x80 } } }

theorem witness_ClearExceptionKeepsTheFieldsInEitherOrder :
    act.excEnabled .horizon = true ∧ act.reportDisable = false ∧ disabling.excEnabled .horizon = false
      ∧ disabling.reportDisable = true ∧ (report ctx disabling ⟨.horizon, 1⟩).counters.disabledHorizon = 1
      ∧ (after (.clearException []) (report ctx act ⟨.horizon, 1⟩)).exc.count = 0 := by decide

/-! ## The line -/

def listening : State := inMode .listening { act with line := { Line.restarted with rx := .idle, listenLeft := some 0 } }

def opening (rx : Rx) (o : OpenTimer) (s : State) : State := { s with line := { s.line with rx := rx, openTimer := o } }

/-- A station that has formed the preference for its cycle 0 MARK. -/
def formed (c : Cadence) : State := { listening with line := { listening.line with zeroCadence := some c } }

theorem witness_TimersAndTheReceiverOpenACycle :
    (after .listenTimerExpiry listening).line.openTimer = .ms 4 0
      ∧ (after .listenTimerExpiry listening).line.zeroCadence = some .quiet
      ∧ (after .openTimerExpiry (opening .idle (.ms 4 0) (formed .alert))).line.tx
        = some ⟨.mark ⟨0, 0, .alert⟩, false⟩
      ∧ (after .openTimerExpiry (opening .busy (.ms 4 0) (formed .alert))).line.zeroCadence = none
      ∧ (after .receiverQuietWaitEnd (opening (.quietWait false) .held (formed .alert))).line.tx
        = some ⟨.mark ⟨0, 0, .alert⟩, false⟩
      ∧ (after .openTimerExpiry (opening .idle (.ms 4 0) listening)).line.tx = some ⟨.mark ⟨0, 0, .quiet⟩, false⟩
      ∧ (after .openTimerExpiry (opening .idle (.ms 4 0) act)).line.tx = some ⟨.mark ⟨6, 0, .quiet⟩, false⟩
      ∧ (after .openTimerExpiry (opening .busy (.ms 4 0) (inMode .resync act))).line.openTimer = .busy
      ∧ (after .openTimerExpiry (opening (.quietWait false) (.ms 4 0) act)).line.openTimer = .held
      ∧ (after .receiverQuietWaitEnd (opening (.quietWait true) .held act)).line.openTimer = .ms 10016 0
      ∧ (after .receiverQuietWaitEnd (opening (.quietWait false) .held act)).line.tx.isSome = true
      ∧ (after .receiverQuietWaitEnd (opening (.quietWait true) .stopped act)).line.rx = .idle
      ∧ (after .frameStart act).line.rx = .busy
      ∧ (after .frameStart (opening (.quietWait false) .stopped act)).line.rx = .quietWait true
      ∧ (fusing (onsetAt 0)).preference = .alert := by decide

/-- The state with a trace that records every kind, and the kinds its ring holds. -/
def recording (s : State) : State := { s with trace := { s.trace with settings := { s.trace.settings with mode := .all } } }

def kinds (s : State) : List TraceKind := s.trace.ring.map (·.kind)

theorem witness_SilenceTimeoutEndsTheOpportunity :
    act.line.silence = true ∧ act.line.tx = none ∧ (after .silenceTimeout act).line.opp = .number 2
      ∧ (after .silenceTimeout (inOpp (.number 3) act)).line.opp = .ended
      ∧ (after .silenceTimeout (inOpp (.number 3) act)).line.openTimer = .ms 10004 0
      ∧ (after .silenceTimeout { act with line := { act.line with oppFrames := true } }).counters.burstCuts = 1
      ∧ (after .silenceTimeout (recording { act with line := { act.line with oppFrames := true } })).trace.ring
        = [⟨0, 5, .number 1, .burstCut, some 1, none, .none⟩]
      ∧ kinds (after .silenceTimeout (recording act)) = [] := by
  decide

def plan (w : PlanWait) (n : Nat) (items : List PlanItem) : Plan := ⟨items, some (.sighting (onsetAt 9)), n, w, 1⟩

def planned (w : PlanWait) (n : Nat) (items : List PlanItem) (rx : Rx) : State :=
  { act with outbound := [onsetAt 9], line := { act.line with rx := rx, plan := some (plan w n items) } }

/-- A station that finds itself the responder to a request of station 2. -/
def answering (fronts : List Front) : State :=
  { act with
    table := ⟨fronts ++ List.replicate (8 - fronts.length) (Front.empty 1), 17, some 4⟩
    agree := { act.agree with state := .agreed, group := [1, 3], history := [(4, 9)] }
    roster := { act.roster with entries := [RosterEntry.restarted,
      { RosterEntry.restarted with state := .present, last := some { act.presence with needTable := false } },
      { RosterEntry.restarted with state := .present, last := some { act.presence with needTable := true }
                                   takenIn := some 4 },
      { RosterEntry.restarted with state := .present, last := some { act.presence with needTable := false } }] } }

theorem witness_PlanIsFixedAndItsPresenceBegins :
    act.line.opp = .number act.own.val ∧ act.line.used = false
      ∧ (after .planFix act).line.tx.map (·.final) = some true
      ∧ (after .planFix { act with outbound := [onsetAt 9, onsetAt 9, onsetAt 9] }).line.plan.map (·.items)
        = some [.presence, .sighting, .sighting]
      ∧ act.presence.needTable = true ∧ act.transferFrames = [] ∧ (answering []).transferFrames = [⟨4, 9, 17, 0, none⟩]
      ∧ ((answering [trackedFront, Front.empty 1, formingFront]).transferFrames.map (fun t => (t.count, t.slot)))
        = [(2, some (0, trackedFront)), (2, some (2, formingFront))]
      ∧ (after .planFix (answering [])).line.tx.map (·.final) = some false := by decide

theorem witness_LaterFramesBeginOnAnIdleLine :
    (after .nextFrameStart (planned .nextStart 0 [.sighting] .idle)).line.tx = some ⟨.sighting (onsetAt 9), true⟩
      ∧ (after .nextFrameStart (planned .nextStart 0 [.transfer ⟨4, 0, 1, 0, none⟩] .idle)).line.tx.isSome = true
      ∧ (after .frameRepeat (planned .repeatStart 1 [.sighting, .sighting] .idle)).line.tx
        = some ⟨.sighting (onsetAt 9), false⟩
      ∧ (after .nextFrameStart (planned .nextStart 0 [.sighting] .busy)).line.plan = none
      ∧ (after .frameRepeat (planned .repeatStart 1 [.sighting] .busy)).line.plan = none := by decide

def sending (b : Body) (final : Bool) (n : Nat) (items : List PlanItem) : State :=
  { act with
    outbound := [onsetAt 9]
    fusion := ⟨some ⟨5, []⟩, none, none, false⟩
    line := { act.line with tx := some ⟨b, final⟩, plan := some ⟨items, some b, n, .frameEnd, 1⟩ } }

theorem witness_EchoFailureIsRepeatedThenDropped :
    (Body.sighting (onsetAt 9)).kind ≠ .mark
      ∧ ((after .echoFail (sending (.sighting (onsetAt 9)) true 1 [.sighting])).line.plan.map (·.attempts)) = some 2
      ∧ (after .echoFail (sending (.sighting (onsetAt 9)) true 2 [.sighting])).line.plan = none
      ∧ (after .echoFail (sending (.sighting (onsetAt 9)) true 2 [.sighting])).outbound = []
      ∧ ((after .echoFail (sending (.presence act.presence) false 2 [.presence, .sighting])).line.plan.map (·.items))
        = some [.sighting] := by decide

def tBody (slot : Option (Fin 8 × Front)) (n : Nat) : TransferBody := ⟨4, 0, 17, n, slot⟩

theorem witness_SentFrameIsTakenByItsSender :
    ((after .frameSent (sending (.presence act.presence) false 0 [.presence, .sighting])).roster.entries[1]?).map
        (·.profile) = some .same
      ∧ ((after .frameSent (sending (.sighting (onsetAt 9)) false 0 [.sighting])).fusion.openLabel.map
        (·.sightings.length)) = some 1
      ∧ (after .frameSent (sending (.sighting (onsetAt 9)) true 0 [.sighting])).line.opp = .number 2
      ∧ (after .frameSent (sending (.sighting (onsetAt 9)) true 0 [.sighting])).outbound = []
      ∧ (after .frameSent (sending (.transfer (tBody none 0)) true 0 [.transfer (tBody none 0)])).counters.transfersSent
        = 1
      ∧ (after .frameSent (inOpp (.number 3) (sending (.sighting (onsetAt 9)) true 0 [.sighting]))).line.opp = .ended
      ∧ (after .frameSent (sending (.transfer (tBody none 0)) false 0 [.transfer (tBody none 0)])).counters.transfersSent
        = 1 := by decide

def heard (b : Body) (final : Bool) : List RxChar := cleanChars (frameBytes 4 2 final b)

def aMark : Body := .mark ⟨6, 1000, .alert⟩

def markReady (m : Mode) : State := inMode m { act with fusion := ⟨some ⟨5, []⟩, none, none, false⟩ }

/-- A staging that a MARK finds active, after two counting closes in which nobody else was heard. -/
def stale (m : Mode) : State :=
  inMode m { act with
    agree := { act.agree with staging := ⟨true, 2, 4, 0, 17, 2, [], false, 1, [], false, false⟩ }
    roster := { act.roster with cycleOpen := true, quietRun := 2 } }

/-- A station with a label of two sightings FUSING and another WAITING. -/
def overrunning : State :=
  { act with fusion := ⟨some ⟨5, []⟩, some ⟨4, 0, []⟩, some ⟨3, 0, [onsetAt 0, onsetAt 0]⟩, false⟩ }

theorem witness_MarkRestartsTheCycle :
    judge act.profile.stations act.own (heard aMark false) = .taken 2 false aMark
      ∧ (after (.markReceived (heard aMark false)) (inMode .resync act)).line.opp = .number 0
      ∧ (after (.markReceived (heard aMark false)) (markReady .listening)).mode = .active
      ∧ (sending aMark false 0 []).line.tx = some ⟨aMark, false⟩
      ∧ (after .markSent (inMode .listening (sending aMark false 0 []))).counters.marksOpened = 1
      ∧ (after (.markReceived (heard aMark false)) (stale .resync)).agree.staging = Staging.empty
      ∧ (after (.markReceived (heard aMark false)) (stale .resync)).counters.transfersDiscarded = 1
      ∧ (after .markSent { stale .listening with line := (sending aMark false 0 []).line }).panel.events.getLsbD 4
        = true
      ∧ overrunning.mode = .active ∧ overrunning.fusion.overruns = true
      ∧ ((after (.markReceived (heard aMark false)) (inMode .resync overrunning)).fusion.fusing.map (·.sightings)) = some [onsetAt 0]
      ∧ (after (.markReceived (heard aMark false)) (inMode .resync overrunning)).fusion.waiting = none
      ∧ (after (.markReceived (heard aMark false)) (inMode .resync overrunning)).fusion.stopping = true
      ∧ (after (.markReceived (heard aMark false)) (inMode .resync { overrunning with
          fusion := { overrunning.fusion with fusing := some ⟨3, 0, []⟩ } })).fusion.stopping = false
      ∧ (after (.markReceived (heard aMark false)) (inMode .resync overrunning)).counters.fusionOverruns = 1
      ∧ (after (.markReceived (heard aMark false)) (inMode .resync overrunning)).agree.state = .diverged := by decide +kernel

theorem witness_JoiningAndResyncMarksRunNoCheck :
    act.fusion.openLabel = none
      ∧ (after (.markReceived (heard aMark false)) (inMode .listening rising)).agree.state = .joining
      ∧ (after (.markReceived (heard aMark false)) (inMode .listening rising)).detector.state = .calm
      ∧ (after .markSent (inMode .listening { act with line := { act.line with tx := some ⟨aMark, false⟩ } })).agree.state
        = .agreed
      ∧ (after (.markReceived (heard aMark false)) (inMode .resync act)).agree.state = .diverged := by decide +kernel

def colliding (n : Nat) : State := { act with line := { act.line with collisions := n, tx := some ⟨aMark, false⟩ } }

theorem witness_MarkCollisionsLeadToMute :
    (colliding 1).mode ≠ .mute ∧ (after .markCollision (colliding 1)).mode = .active
      ∧ (after .markCollision (colliding 1)).counters.markCollisions = 1 ∧ (after .markCollision (colliding 2)).mode = .mute
      ∧ (after .markCollision (colliding 2)).line.muteReason = some .markContention := by decide

def peer (s : State) : State := inOpp (.number 2) { s with fusion := ⟨some ⟨5, []⟩, none, none, false⟩ }

def aSighting : Body := .sighting { onsetAt 9 with source := 2 }

def aTransfer (slot : Option (Fin 8)) (n : Nat) : Body := .transfer (tBody (slot.map (·, { formingFront with arrivals := [] })) n)

def aPresence : Body := .presence { act.presence with cycle := 9 }

theorem witness_PeerFrameIsTakenInItsOpportunity :
    judge 4 1 (heard aPresence false) = .taken 2 false aPresence
      ∧ judge 4 1 (heard aSighting false) = .taken 2 false aSighting
      ∧ ((after (.presenceReceived (heard aPresence false)) (peer act)).roster.entries[2]?).map (·.heard) = some true
      ∧ ((after (.sightingReceived (heard aSighting false)) (peer (inMode .mute act))).fusion.openLabel.map
        (·.sightings.length)) = some 1
      ∧ (after (.sightingReceived (heard aSighting false)) (peer (inMode .listening act))).counters.framesTaken = 1
      ∧ (after (.presenceReceived (heard aPresence false)) (peer (inMode .resync act))).line.cycle = 9
      ∧ ((after (.presenceReceived (heard aPresence false)) (peer (inMode .resync act))).roster.entries[2]?).map
        (·.takenIn) = some (some 9)
      ∧ ((after (.sightingReceived (heard aSighting false)) (peer (inMode .resync act))).fusion.openLabel.map
        (·.sightings.length)) = some 0
      ∧ (after (.transferReceived (heard (aTransfer none 0) false)) (peer (inMode .resync act))).agree.staging.active
        = false
      ∧ (after (.presenceReceived (heard aPresence false)) (opening .busy .busy listening)).line.openTimer = .ms 10016 0
      ∧ (after (.presenceReceived (heard aPresence false)) (opening (.collecting true) .stopped listening)).line.openTimer
        = .ms 10016 0
      ∧ (after (.presenceReceived (heard aPresence false)) (opening .busy .stopped listening)).line.openTimer = .stopped
      ∧ (after (.presenceReceived (heard aPresence false)) (opening .busy .busy (peer (inMode .mute act)))).line.openTimer
        = .busy := by
  decide +kernel

theorem witness_SlotDisagreementMovesTheCounter :
    act.agree.staging.active = false ∧ act.line.opp = .number 1 ∧
    (after (.presenceReceived (heard aPresence false)) act).line.opp = .number 2
      ∧ (after (.sightingReceived (heard aSighting false)) (inOpp .ended act)).counters.slotDisagreements = 1
      ∧ (after (.sightingReceived (heard aSighting false)) (inMode .mute (inOpp .none act))).line.opp = .none := by
  decide +kernel

/-- The agreement state with a staging that every frame of its snapshot has reached. -/
def moving (residue : Nat) (busy : Bool) : State :=
  recording { act with
    fusion := ⟨some ⟨5, []⟩, none, if busy then some ⟨4, 0, []⟩ else none, false⟩
    agree := { act.agree with staging :=
      { Staging.empty with active := true, source := 3, label := 4, nextId := 17, residue := residue
                           digest := tableDigest (Staging.empty.slots 1) 17 } } }

/-- The state with an OPEN label that holds 32 sightings. -/
def fullLabel (s : State) : State :=
  { s with fusion := { s.fusion with openLabel := some ⟨5, List.replicate 32 (onsetAt 0)⟩ } }

theorem witness_SlotDisagreementSettlesAStaging :
    (moving 1 false).agree.staging.active = true ∧ (moving 1 false).agree.staging.held = false
      ∧ kinds (after (.sightingReceived (heard aSighting false)) (moving 1 false))
        = [.frameIn, .transferDiscarded, .slotDisagree]
      ∧ (after (.sightingReceived (heard aSighting false)) (moving 1 false)).agree.staging = Staging.empty
      ∧ kinds (after (.sightingReceived (heard aSighting false)) (moving 0 true)) = [.frameIn, .slotDisagree]
      ∧ (after (.sightingReceived (heard aSighting false)) (moving 0 true)).agree.staging.held = true
      ∧ kinds (after (.sightingReceived (heard aSighting false)) (moving 0 false))
        = [.frameIn, .transferInstalled, .slotDisagree]
      ∧ (after (.sightingReceived (heard aSighting false)) (moving 0 false)).agree.installed = true
      ∧ ((after (.sightingReceived (heard aSighting false)) (moving 0 false)).fusion.openLabel.map
        (·.sightings.length)) = some 1
      ∧ (after (.sightingReceived (heard aSighting false)) (fullLabel (moving 0 false))).counters.sightingsRefused = 1
      ∧ ((after (.sightingReceived (heard aSighting false)) (inMode .resync (moving 0 false))).fusion.openLabel.map
        (·.sightings.length)) = some 0
      ∧ ((after (.presenceReceived (heard aPresence false)) (moving 0 false)).roster.entries[2]?).map
        (fun e => (e.heard, e.takenIn, e.profile)) = some (true, some 5, .same)
      ∧ ((after (.presenceReceived (heard aPresence false)) (inMode .resync (moving 0 false))).roster.entries[2]?).map
        (·.takenIn) = some (some 9)
      ∧ (after (.presenceReceived (heard aPresence false)) (inMode .mute (inOpp .none (moving 0 false)))).roster.entries.map
        (·.heard) = [false, false, true, false]
      ∧ kinds (after (.sightingReceived (heard aSighting false)) (inMode .mute (inOpp .none (moving 0 false))))
        = [.frameIn]
      ∧ kinds (after (.transferReceived (heard (aTransfer none 0) false)) (moving 1 false))
        = [.frameIn, .transferDiscarded, .slotDisagree] := by
  decide +kernel

def woken : State := inOpp .ended { act with line := { act.line with wakePending := true } }

theorem witness_FirstFrameAfterAWakeEntersResync :
    woken.line.wakePending = true ∧ (after (.presenceReceived (heard aPresence false)) woken).mode = .resync
      ∧ (after (.presenceReceived (heard aPresence false)) woken).line.cycle = 9
      ∧ (after (.presenceReceived (heard aPresence false)) (recording woken)).trace.ring.map
          (fun e => (e.cycle, e.opp, e.kind)) = [(9, .number 2, .frameIn), (9, .number 2, .resync)] := by decide +kernel

def staging (g : Staging) : State := peer { act with agree := { act.agree with group := [2], staging := g } }

/-- The details of the entries that a TRANSFER frame of station 2 leaves, for a staging that stands as given. -/
def transferTrace (t : Body) (g : Staging) : List (TraceKind × Detail) :=
  (after (.transferReceived (heard t false)) (recording (staging g))).trace.ring.map (fun e => (e.kind, e.detail))

def staged (got : List (Fin 8)) (residue : Nat) : Staging := ⟨true, 2, 4, 0, 17, 2, got, false, residue, [], false, false⟩

theorem witness_TransferFramesAreIgnoredStagedOrDiscarded :
    judge 4 1 (heard (aTransfer (some 3) 2) false) = .taken 2 false (aTransfer (some 3) 2)
      ∧ (after (.transferReceived (heard (aTransfer none 0) false)) (peer act)).counters.transfersIgnored = 1
      ∧ (after (.transferReceived (heard (aTransfer none 0) false)) (staging Staging.empty)).agree.staging.noneReceived
        = true
      ∧ (after (.transferReceived (heard (aTransfer (some 3) 2) false)) (staging Staging.empty)).agree.staging.residue = 1
      ∧ (after (.transferReceived (heard (aTransfer (some 3) 2) false)) (staging (staged [1] 1))).agree.staging.received
        = [1, 3]
      ∧ (after (.transferReceived (heard (aTransfer (some 3) 2) false)) (staging (staged [3] 1))).agree.staging.discarded
        = true
      ∧ (after (.transferReceived (heard (aTransfer (some 3) 2) false)) (staging (staged [1, 2] 0))).agree.staging.active
        = false
      ∧ (after (.transferReceived (heard (aTransfer (some 3) 3) false)) (staging (staged [1] 1))).counters.transfersDiscarded
        = 1
      ∧ transferTrace (aTransfer (some 3) 3) (staged [1] 1)
        = [(.frameIn, .count 3), (.transferDiscarded, .discard .mismatch)]
      ∧ transferTrace (aTransfer (some 3) 2) (staged [3, 1] 0)
        = [(.frameIn, .count 2), (.transferDiscarded, .discard .mismatch)]
      ∧ transferTrace (aTransfer (some 3) 2) (staged [3] 1)
        = [(.frameIn, .count 2), (.transferDiscarded, .discard .repeated)]
      ∧ transferTrace (aTransfer none 0) { staged [] 0 with expected := 0, noneReceived := true }
        = [(.frameIn, .count 0), (.transferDiscarded, .discard .repeated)]
      ∧ transferTrace (aTransfer (some 3) 2) (staged [1] 1) = [(.frameIn, .count 2)]
      ∧ ((after (.transferReceived (heard (aTransfer (some 3) 2) false)) (staging (staged [3] 1))).roster.entries[2]?).map
        (·.heard) = some true := by decide +kernel

/-- A MARK of station 2 with no payload, which fails the LENGTH check. -/
def shortMark : List RxChar :=
  let body : List Byte := [headerByte .mark false 2, 0]
  cleanChars (0x6B :: (body ++ be16 (crc16 body)))

/-- A MARK of a station beyond the yard. -/
def strangeMark : List RxChar := cleanChars (frameBytes 4 5 false aMark)

/-- A MARK of a yard of five stations. -/
def foreignMark : List RxChar := cleanChars (frameBytes 5 2 false aMark)

/-- The five rejection counters after a frame that fails a receive check. -/
def rejections (frame : List RxChar) (s : State) : List Word16 :=
  let c := (after (.frameRejected frame) s).counters
  [c.checkRejections, c.lengthRejections, c.sourceRejections, c.ownRejections, c.fieldRejections]

def ownFrame : List RxChar := cleanChars (frameBytes 4 1 false aMark)

theorem witness_RejectedFrameIsCountedAndAnOwnNumberMutes :
    judge 4 1 ownFrame = .rejected .own false (some 1) ∧ judge 4 1 [] = .rejected .check true none
      ∧ judge 4 1 shortMark = .rejected .length false (some 2)
      ∧ judge 4 1 strangeMark = .rejected .source false (some 5)
      ∧ judge 4 1 foreignMark = .rejected .field false (some 2)
      ∧ rejections shortMark act = [0, 1, 0, 0, 0] ∧ rejections strangeMark act = [0, 0, 1, 0, 0]
      ∧ rejections foreignMark act = [0, 0, 0, 0, 1]
      ∧ rejections shortMark (opening (.collecting true) .stopped act) = [0, 1, 0, 0, 0]
      ∧ kinds (after (.frameRejected foreignMark) (recording (opening (.collecting false) .stopped act))) = [.checkFail]
      ∧ (after (.frameRejected ownFrame) act).mode = .mute
      ∧ (after (.frameRejected []) (opening .busy .busy act)).line.openTimer = .ms 10016 0
      ∧ (after (.frameRejected []) act).counters.checkRejections = 1
      ∧ (after (.frameRejected []) (opening (.collecting true) .stopped act)).counters.checkRejections = 0
      ∧ (after (.frameRejected []) (opening (.collecting true) .stopped act)).line.openTimer = .ms 10016 0
      ∧ (after (.frameRejected []) (opening (.collecting false) .stopped act)).line.openTimer = .stopped
      ∧ (after (.frameRejected (heard aMark false).tail) (opening (.collecting true) .stopped act)).line.rx = .idle := by
  decide +kernel

/-! ## Roster and agreement -/

def rosterOf (st : RosterState) (n : Byte) (wasHeard isOpen : Bool) : Roster :=
  ⟨List.replicate 4 { RosterEntry.restarted with state := st, unheard := n, heard := wasHeard }, isOpen, 2, false⟩

def closedEntry (r : Roster) : Option (RosterState × Byte) := ((r.close 1).entries[0]?).map (fun e => (e.state, e.unheard))

theorem witness_CycleCloseJudgesEveryEntry :
    closedEntry (rosterOf .present 2 false true) = some (.silent, 3)
      ∧ closedEntry (rosterOf .silent 9 false true) = some (.absent, 10)
      ∧ closedEntry (rosterOf .unknown 255 false true) = some (.unknown, 255)
      ∧ closedEntry (rosterOf .absent 40 true true) = some (.present, 0)
      ∧ closedEntry (rosterOf .unknown 0 false false) = some (.unknown, 0)
      ∧ ((rosterOf .present 0 false true).close 1).lineLost = true
      ∧ ((rosterOf .present 0 true true).close 1).quietRun = 0 := by decide

def reporting (own : Option Word16) : State :=
  { markReady .active with
    agree := { Agree.restarted with history := own.toList.map (4, ·), runCount := 2 }
    roster := { Roster.restarted 4 with cycleOpen := true, entries := List.replicate 4 { RosterEntry.restarted with
      takenIn := some 5
      last := some { act.presence with fused := some 4, digest := some 7 } } } }

/-- The state with a label in each place of the Fusion Engine. -/
def overrun (s : State) : State := { s with fusion := overrunning.fusion }

theorem witness_CheckFollowsThePluralityDigest :
    plurality [(0, 1), (1, 2), (3, 1), (4, 2), (5, 3)] = some 1 ∧ groupOf [(0, 1), (1, 2), (3, 1)] 1 = [0, 3]
      ∧ plurality (qualifying 5 (reporting none).roster.entries) = some 7
      ∧ (runCheck 5 false false (reporting (some 7))).agree.state = .agreed
      ∧ (runCheck 5 false false (reporting (some 7))).agree.runCount = 0
      ∧ (runCheck 5 true false (overrun (reporting (some 7)))).agree.state = .diverged
      ∧ (runCheck 5 true false (overrun (reporting (some 7)))).agree.group.length = 4
      ∧ (runCheck 5 true false (overrun (reporting (some 7)))).agree.runCount = 3
      ∧ (reporting none).fusion.fusing = none ∧ qualifying 5 act.roster.entries = []
      ∧ judgedState false (some 7) 7 .joining = .agreed ∧ judgedState false (some 8) 7 .agreed = .diverged := by decide

theorem witness_DegradedFollowsCloseAndCheckInEitherOrder :
    (reporting (some 7)).warn.pendingAgreed = false ∧ (reporting (some 7)).mode = .active
      ∧ (runCheck 5 false true (closeCycle (hear 2 (reporting (some 7))))).warn.zones
        = (closeCycle (runCheck 5 false false (hear 2 (reporting (some 7))))).warn.zones
      ∧ (runCheck 5 false true (closeCycle (hear 2 (reporting (some 7))))).warn.zones.map (·.degraded) = [false]
      ∧ (runCheck 5 false true (closeCycle (reporting (some 8)))).warn.zones.map (·.degraded) = [true]
      ∧ (runCheck 5 false true (closeCycle (hear 2 (reporting (some 7))))).warn.gens.map
        (fun g => (g.shown, g.preload)) = [(.fault, .off), (.off, .off), (.off, .off), (.off, .off)]
      ∧ (runCheck 5 false true (closeCycle (reporting (some 8)))).warn.gens.map
        (fun g => (g.shown, g.preload)) = [(.fault, .fault), (.off, .off), (.off, .off), (.off, .off)] := by decide

def complete (digest : Word16) (busy : Bool) : State :=
  { act with
    fusion := ⟨some ⟨5, []⟩, none, if busy then some ⟨4, 0, []⟩ else none, false⟩
    agree := { act.agree with staging := ⟨true, 2, 4, digest, 17, 1, [3], false, 0, [(3, trackedFront)], false, false⟩ } }

def rightDigest : Word16 := tableDigest ((complete 0 false).agree.staging.slots 1) 17

/-- `complete` with a front whose dust classes are UNSET, and the right digest. -/
def unsetDust : State :=
  let f := { trackedFront with track := trackedFront.track.map (fun e => { e with dust := none }) }
  let g := { (complete 0 false).agree.staging with staged := [(3, f)] }
  { complete 0 false with agree := { act.agree with staging := { g with digest := tableDigest (g.slots 1) 17 } } }

/-- The details of the entries that a settled staging leaves, with a burst cut before it. -/
def settledTrace (s : State) : List (TraceKind × Detail) :=
  (after .silenceTimeout (recording { s with line := { s.line with oppFrames := true } })).trace.ring.map
    (fun e => (e.kind, e.detail))

theorem witness_StagingIsSettledAtTheEndOfItsOpportunity :
    idsClash ((complete 0 false).agree.staging.slots 1) = false
      ∧ (after .silenceTimeout (staging (staged [1] 1))).counters.transfersDiscarded = 1
      ∧ (after .silenceTimeout (complete (rightDigest + 1) false)).counters.transfersDiscarded = 1
      ∧ (after .silenceTimeout (complete rightDigest true)).agree.staging.held = true
      ∧ (after .silenceTimeout (complete rightDigest false)).agree.installed = true
      ∧ (after .closingStepEnd (after .silenceTimeout (complete rightDigest true))).agree.installed = true
      ∧ (after .closingStepEnd (after .silenceTimeout (complete rightDigest true))).counters.transfersInstalled = 1
      ∧ (((after .closingStepEnd (after .silenceTimeout (complete rightDigest true))).table.slots[3]?).map (·.id))
        = some 15
      ∧ settledTrace (staging (staged [1] 1)) = [(.burstCut, .none), (.transferDiscarded, .discard .incomplete)]
      ∧ settledTrace (complete (rightDigest + 1) false) = [(.burstCut, .none), (.transferDiscarded, .discard .digest)]
      ∧ settledTrace (complete rightDigest true) = [(.burstCut, .none)]
      ∧ settledTrace (complete rightDigest false) = [(.burstCut, .none), (.transferInstalled, .count 1)]
      ∧ levels (after .silenceTimeout (complete rightDigest false)) = [(.watch, .front 3 15)]
      ∧ levels (after .silenceTimeout (complete rightDigest true)) = [(.clear, .none)]
      ∧ (after .silenceTimeout unsetDust).agree.installed = true
      ∧ (after .silenceTimeout unsetDust).exc.sighting = none
      ∧ ((after .silenceTimeout unsetDust).exc.slot, (after .silenceTimeout unsetDust).exc.label) = (some 3, some 4)
      ∧ (after .closingStepEnd (after .silenceTimeout { unsetDust with
          fusion := ⟨some ⟨5, []⟩, none, some ⟨4, 0, []⟩, false⟩ })).exc.frontId = some 15 := by
  decide +kernel

/-- The last TRANSFER frame of `complete`, with FINAL, to a station that has staged nothing. -/
def lastTransfer (digest : Word16) : Body := .transfer ⟨4, digest, 17, 1, some (3, { trackedFront with arrivals := [] })⟩

def awaiting (busy : Bool) : State :=
  peer { act with
    fusion := ⟨some ⟨5, []⟩, none, if busy then some ⟨4, 0, []⟩ else none, false⟩
    agree := { act.agree with group := [2] } }

theorem witness_TakenFinalEndsItsOpportunity :
    judge 4 1 (heard aPresence true) = .taken 2 true aPresence ∧ judge 4 1 (heard aSighting true) = .taken 2 true aSighting
      ∧ judge 4 1 (heard (lastTransfer 0) true) = .taken 2 true (lastTransfer 0)
      ∧ (after (.presenceReceived (heard aPresence true)) (peer act)).line.opp = .number 3
      ∧ (after (.sightingReceived (heard aSighting true)) (peer (inMode .mute act))).line.opp = .number 3
      ∧ (after (.presenceReceived (cleanChars (frameBytes 4 3 true aPresence))) (inOpp (.number 3) act)).line.opp = .ended
      ∧ (after (.transferReceived (heard (lastTransfer 0) true)) (awaiting false)).counters.transfersDiscarded = 1
      ∧ (after (.transferReceived (heard (lastTransfer rightDigest) true)) (awaiting false)).agree.installed = true
      ∧ levels (after (.transferReceived (heard (lastTransfer rightDigest) true)) (awaiting false))
        = [(.watch, .front 3 15)]
      ∧ (after (.sightingReceived (heard aSighting true)) (inOpp (.number 0) act)).counters.slotDisagreements = 1
      ∧ (after (.sightingReceived (heard aSighting true)) (inOpp .ended (inMode .resync act))).line.opp = .number 3
      ∧ (after (.sightingReceived (heard aSighting true)) (inMode .mute (inOpp .none act))).line.opp = .none
      ∧ (after (.presenceReceived (heard aPresence true)) (opening .busy .busy (peer act))).line.openTimer = .ms 10016 0
      ∧ (after (.presenceReceived (heard aPresence true)) (peer (inMode .resync act))).line.opp = .number 3
      ∧ (after (.presenceReceived (heard aPresence true)) (peer (inMode .resync act))).line.cycle = 9
      ∧ ((after (.sightingReceived (heard aSighting true)) (peer (inMode .resync act))).fusion.openLabel.map
        (·.sightings.length)) = some 0
      ∧ (after (.transferReceived (heard (lastTransfer 0) true)) (inMode .resync (awaiting false))).agree.staging.active
        = false
      ∧ (after (.presenceReceived (cleanChars (frameBytes 4 3 true aPresence)))
          (inOpp (.number 3) (inMode .resync act))).line.openTimer = .ms 10004 0
      ∧ (after (.presenceReceived (heard aPresence true)) woken).mode = .resync
      ∧ (after (.presenceReceived (heard aPresence true)) woken).line.opp = .number 3 := by decide +kernel

/-! ## Warnings -/

def arriving (t : Tick) : Front := { trackedFront with arrivals := [.time t], dustI := some 2 }

def levelOf (f : Front) : Option Level := frontLevel yard 1000 0 f

theorem witness_ComputedLevelIsTheGreatestFrontLevel :
    levelOf (arriving 13000) = some .alarm ∧ levelOf (arriving 13001) = some .warn
      ∧ levelOf (arriving 31001) = some .watch ∧ levelOf (arriving 0) = some .alarm
      ∧ levelOf { arriving 0 with dustI := some 1 } = some .warn
      ∧ levelOf { arriving 0 with state := .decaying } = some .watch ∧ levelOf (Front.empty 1) = none
      ∧ levelOf { formingFront with track := [entry 3 1 0] } = some .watch ∧ levelOf formingFront = some .clear
      ∧ act.detector.localOverride = false := by decide

/-- A front that arrives at the zone now. -/
def threatened (z : Zone) : State :=
  { act with
    table := { act.table with slots := act.table.slots.set 0 (arriving 0) }
    warn := { Warn.restarted [z] with secondDue := true } }

theorem witness_EvaluationRaisesAtOnce :
    (threatened (zoneAt .clear)).computed 0 = (.alarm, .front 0 15)
      ∧ (evaluate (threatened (zoneAt .clear))).warn.zones.map (·.level) = [.alarm]
      ∧ (evaluate (threatened (zoneAt .clear))).panel.events.getLsbD 5 = true
      ∧ (evaluate (threatened (zoneAt .clear))).sirenOn 0 = true := by decide

def expiring (l : Level) : State := { act with warn := Warn.restarted [{ zoneAt l with hold := some 0 }] }

theorem witness_LevelsFallByTheHoldTimerAlone :
    (threatened (zoneAt .watch)).warn.secondDue = true ∧ alarmed.computed 0 = (.clear, .none)
      ∧ (evaluate alarmed).warn.zones.map (·.hold) = [some 6000]
      ∧ (evaluate (threatened { zoneAt .alarm with hold := some 3 })).warn.zones.map (·.hold) = [none]
      ∧ (after .perSecondEvaluation (threatened (zoneAt .watch))).warn.zones.map (·.level) = [.alarm]
      ∧ (after (.holdExpiry 0) (expiring .alarm)).warn.zones.map (fun z => (z.level, z.hold)) = [(.warn, some 6000)]
      ∧ (after (.holdExpiry 0) (expiring .alarm)).warn.gens.map (·.shown) = [.warn, .off, .off, .off]
      ∧ (after (.holdExpiry 0) (expiring .watch)).warn.zones.map (fun z => (z.level, z.hold)) = [(.clear, none)] := by
  decide

def shining : State := { act with warn := { act.warn with gens := [⟨true, 40, .alarm, .off, .off⟩] } }

/-- How many of the first `n` counts of a running generator show its output on. -/
def onTicks (p : Pattern) (n : Nat) : Nat :=
  ((List.range n).filter (fun k => ({ Gen.stopped with running := true, counter := k, shown := p } : Gen).output)).length

/-- A station whose channel 0 shows ALARM, with either lamp polarity. -/
def lit (onLow : Bool) : State :=
  { act with
    loader := { act.loader with loaded := some { cfg with entry := { cfg.entry with onLow := onLow } } }
    warn := { act.warn with gens := [⟨true, 29, .alarm, .off, .off⟩] } }

theorem witness_GeneratorsTakeTheirPatterns :
    Gen.stopped.running = false ∧ (Gen.stopped.hand .warn).running = true ∧ shining.warn.gens.length = 1
      ∧ (after (.patternPeriodEnd 0) shining).warn.gens = [⟨false, 0, .off, .off, .off⟩]
      ∧ ([.alarm, .warn, .watch, .fault].map (fun p => onTicks p 400)) = [30, 50, 30, 150]
      ∧ (withZones [zoneAt .warn] act).warn.gens.map (·.shown) = [.warn, .off, .off, .off]
      ∧ shining.lampOn 0 = false ∧ shining.lampLine 0 = .low ∧ (lit false).lampLine 0 = .high
      ∧ (lit true).lampLine 0 = .low ∧ (lit true).lampLine 1 = .high ∧ alarmed.sirenLine 0 = .high
      ∧ act.sirenLine 0 = .low ∧ (inMode .lull alarmed).sirenLine 0 = .low ∧ State.reset.lampLine 0 = .released
      ∧ (inMode .configFault act).sirenLine 0 = .released := by decide

/-! ## Time -/

def sleeping (w : WakeTimer) (p : Nat) : State :=
  inMode .lull (inOpp .ended { act with
    time := { act.time with wake := some w }, line := { act.line with rx := .off, openTimer := .lull p } })

def windowOver : State := { act with time := { act.time with calibLeft := some 0 } }

theorem witness_ClocksTickAndAreCalibrated :
    (after .localTick State.reset).time.localTick = 1 ∧ (after .localTick act).time.calibLeft = some 50
      ∧ (after .localTick (sleeping ⟨10, 0, 0⟩ 1000)).time.acc = 16
      ∧ (after .localTick (sleeping ⟨10, 0, 0⟩ 1000)).line.openTimer = .lull 672
      ∧ (after .localTick (sleeping ⟨10, 0, 0⟩ 1000)).time.wake = some ⟨10, 5, 8⟩
      ∧ (after .localTick (sleeping ⟨5, 0, 0⟩ 1000)).time.wake = some ⟨5, 5, 0⟩
      ∧ (after .localTick (sleeping ⟨10, 0, 0⟩ 1000)).time.capture = 100
      ∧ (after .localTick (sleeping ⟨10, 0, 0⟩ 1000)).time.capAcc = 1600
      ∧ (after (.calibrationWindowEnd 12288) windowOver).time.rate = 12288
      ∧ (after (.calibrationWindowEnd 20481) windowOver).counters.calibrationRejects = 1 := by decide

def drowsy : State := opening .idle (.ms 10004 0) (inOpp .ended { act with time := { act.time with lullGood := true } })

def edged (n : Nat) : State := { drowsy with sensor := { drowsy.sensor with lastAccepted := some (BitVec.ofNat 32 n) } }

theorem witness_LullIsEnteredOnItsTenConditions :
    drowsy.lullReady = true ∧ act.lullReady = false ∧ (finish drowsy).mode = .lull
      ∧ (finish drowsy).time.wake = some ⟨5068, 0, 0⟩
      ∧ (finish { drowsy with line := { drowsy.line with openFresh := true } }).line.openTimer = .lull 327811
      ∧ (finish { drowsy with line := { drowsy.line with openTimer := .stopped } }).line.openTimer = .lull 0
      ∧ (edged 40).edgeOffset = 40 ∧ (edged 102).edgeOffset = 0 ∧ act.edgeOffset = 0
      ∧ (finishAtTick (edged 40)).time.capture = 40 := by
  decide

def ticking : State := { State.reset with pending := [.localTick] }

/-- A station that works, about to be idle enough for LULL. -/
def dozing : State := { windowOver with pending := [.calibrationWindowEnd 16000], line := drowsy.line }

theorem witness_LullIsEnteredAtTheFirstMoment :
    dozing.lullReady = false ∧ (stepped dozing).mode = .lull ∧ (stepped dozing).lullReady = false
      ∧ (stepped ticking).lullReady = false := by decide

theorem witness_WakesReturnToActive :
    (sleeping ⟨10, 10, 0⟩ 1000).wakeDue = true ∧ (after .wakeTimerExpiry (sleeping ⟨10, 9, 0⟩ 1000)).mode = .active
      ∧ (after .wakeTimerExpiry (sleeping ⟨10, 0, 0⟩ 1000)).mode = .lull
      ∧ (after .openTimerExpiry (sleeping ⟨10, 0, 0⟩ 328)).line.openTimer = .held
      ∧ (after .openTimerExpiry (sleeping ⟨10, 0, 0⟩ 329)).mode = .lull := by decide

/-! ## The trace, the frames and the invariants -/

theorem witness_StepRunsTheFrontCommand :
    State.reset.pending = [] ∧ (stepped State.reset).time.localTick = 0 ∧ (stepped ticking).time.localTick = 1 := by decide

def ringOf (n : Nat) : State :=
  { act with trace := { act.trace with ring := List.replicate n ⟨0, 0, .none, .frameIn, none, none, .none⟩ } }

def matching (mask : BitVec 5) : State :=
  { act with trace := { act.trace with settings := ⟨.matching, 0x0001, 4, mask, 0⟩ } }

theorem witness_TraceRecordsFreezesAndIsArmed :
    (offer .frameIn (some 2) none .none (ringOf 47)).trace.ring.length = 48
      ∧ (offer .frameIn (some 2) none .none (ringOf 48)).trace.ring.length = 48
      ∧ (offer .slotDisagree (some 2) none .none act).trace.frozen = true
      ∧ (offer .slotDisagree (some 2) none .none act).panel.events.getLsbD 7 = true
      ∧ (offer .frameIn (some 7) none .none (matching 0x1C)).trace.ring.length = 1
      ∧ (offer .frameIn none none .none (matching 0x1C)).trace.ring.length = 0
      ∧ (after (.armTrace [2, 0, 1, 31, 31, 0, 0, 1]) (ringOf 48)).trace.ring = []
      ∧ (after (.armTrace [3, 0, 1, 31, 31, 0, 0, 1]) (ringOf 48)).panel.response = [2] := by decide

theorem witness_FramesReadBackAsComposed :
    { trackedFront with arrivals := [] }.wellFormed 4 0 = true
      ∧ judge 4 1 (heard (.transfer (tBody (some (0, { trackedFront with arrivals := [] })) 1)) true)
        = .taken 2 true (.transfer (tBody (some (0, { trackedFront with arrivals := [] })) 1)) := by decide +kernel

theorem witness_EveryStepKeepsTheBounds :
    ∃ s t : State, Bounded s ∧ step s = .next t ∧ t.time.localTick = 1 :=
  ⟨ticking, stepped ticking,
    { inForce := by decide, passed := by intro c h; simp [ticking, State.reset, Loader.cold] at h, slots := by decide
      openLabel := by intro l h; simp [ticking, State.reset, Fusion.empty] at h
      window := by decide, priming := by decide
      dustRun := by decide, vaneRun := by decide, outbound := by decide, entries := by decide, quietRun := by decide
      history := by decide, zones := by decide, gens := by decide, ring := by decide }, rfl, by decide⟩

def planning : State := { act with pending := [.planFix] }

theorem witness_EveryStepKeepsTheLineDiscipline :
    ∃ s t : State, LineDiscipline s ∧ step s = .next t ∧ t.line.tx.isSome = true :=
  ⟨planning, stepped planning,
    { silent := by decide, ownOpportunity := by intro t h; simp [planning, act, Line.restarted] at h
      planned := by decide, muteTimer := by decide }, rfl, by decide⟩

/-! ## Characters, bits and the CRC -/

theorem test_char_bits : charBits 0x6B = [false, true, true, false, true, false, true, true, false, true] := by decide

theorem test_crc_empty : crc16 [] = 0xFFFF := by decide

theorem test_empty_digest : tableDigest (FrontTable.empty 1).slots 1 = tableDigest (FrontTable.empty 8).slots 1 := by
  decide +kernel

end Sys2Proof.Tests
end

section
/-! PROOFS. The estimator's exceptions (R54 to R58): what the settings in force read as once a configuration is loaded,
and the whole state after an enabled report. -/

namespace Sys2Proof.Machine

/-- The enables are read from the configuration in force (R56). -/
theorem excEnabled_of_loaded {s : State} {cfg : Loaded} (h : s.loader.loaded = some cfg) (c : ExcCode) :
    s.excEnabled c = cfg.enables.getLsbD (c.number - 1) := by
  simp only [State.excEnabled, h]

/-- So is report disable (R56). -/
theorem reportDisable_of_loaded {s : State} {cfg : Loaded} (h : s.loader.loaded = some cfg) :
    s.reportDisable = cfg.enables.getLsbD 7 := by
  simp only [State.reportDisable, h]

/-- The EXCEPTION event is bit 2 of the pending set (R200); raised unless a setting `d` forbids it. -/
theorem withEvent_exception_not (d : Bool) (set : Word16) :
    withEvent (!d) .exception set = if d then set else set ||| 4 := by
  cases d with
  | true => rfl
  | false => rfl

/-- The saturating count with its end written out: 255 stays 255 (R57). -/
theorem satIncByte_eq (c : Byte) : satIncByte c = if c = 255 then 255 else c + 1 := by
  by_cases h : c = 255
  · rw [h]
    rfl
  · exact (if_neg h).trans (if_neg h).symm

/-- An enabled report updates the record and raises the event unless report disable is set, and no counter moves
(R57). -/
theorem report_of_enabled {s : State} {x : ExcReport} (h : s.excEnabled x.code = true) (ctx : ExcContext) :
    report ctx s x = { s with
      exc := s.exc.update ctx x
      panel.events := withEvent (!s.reportDisable) .exception s.panel.events } := by
  simp only [report, h, if_true, Bool.true_and]

/-- Settles O27: the report is enabled in the configuration in force, so `report_of_enabled` gives its whole effect. -/
theorem enabledExceptionUpdatesTheRecord : Obligations.EnabledExceptionUpdatesTheRecord := by
  intro s cfg ctx x n hload hn hbit
  have hnumber : n = x.code.number - 1 := by
    rw [hn]
    cases x.code <;> rfl
  have henabled : s.excEnabled x.code = true := by
    rw [excEnabled_of_loaded hload, ← hnumber, hbit]
  rw [report_of_enabled henabled, reportDisable_of_loaded hload, withEvent_exception_not,
    ExcRecord.update, satIncByte_eq]
  rfl

end Sys2Proof.Machine
end

section
/-! PROOFS. The raise at an evaluation (R169): the record of a raised zone, the event it raises, and what the generator,
the siren and the next PRESENCE take from a zone record. -/

namespace Sys2Proof.Machine

/-- A zone below its computed level takes that level and source at once, with its timer stopped and its acknowledged
flag cleared (R169). -/
theorem applyLevel_of_lt {c : Level × Source} {z : Zone} (h : z.level.rank < c.1.rank) (holdT : Nat) :
    applyLevel holdT c z = { z with level := c.1, hold := none, ack := false, source := c.2 } := if_pos h

/-- An evaluation applies to each zone record its own computed level (R166). -/
theorem evaluate_zones_getElem? {s : State} {k : Nat} {z : Zone} (h : s.warn.zones[k]? = some z) :
    (evaluate s).warn.zones[k]? = some (applyLevel s.profile.holdT (s.computed z.zone) z) := by
  rw [evaluate_zones, List.getElem?_map, h, Option.map_some]

/-- One raise to WARN or ALARM suffices for ZONE_RAISED, bit 5 of the pending set (R169, R200). -/
theorem evaluate_events_of_raisesLoud {s : State} {z : Zone} (hz : z ∈ s.warn.zones)
    (h : raisesLoud (s.computed z.zone) z = true) : (evaluate s).panel.events = s.panel.events ||| 0x20 := by
  have hany : s.warn.zones.any (fun r => raisesLoud (s.computed r.zone) r) = true := List.any_eq_true.2 ⟨z, hz, h⟩
  rw [evaluate_panel, hany]
  rfl

/-- Without such a raise the pending events stay (R169). -/
theorem evaluate_events_of_not_raisesLoud {s : State}
    (h : ∀ y ∈ s.warn.zones, raisesLoud (s.computed y.zone) y = false) :
    (evaluate s).panel.events = s.panel.events := by
  have hany : s.warn.zones.any (fun r => raisesLoud (s.computed r.zone) r) = false :=
    List.any_eq_false.2 fun y hy => by rw [h y hy]; exact Bool.false_ne_true
  rw [evaluate_panel, hany]
  rfl

/-- A zone at or above its computed level, or raised to WATCH, raises no event (R169). -/
theorem raisesLoud_eq_false {c : Level × Source} {z : Zone} (h : c.1.rank ≤ z.level.rank ∨ c.1 = .watch) :
    raisesLoud c z = false := by
  rw [raisesLoud_eq, decide_eq_false_iff_not]
  rintro ⟨hlt, hloud⟩
  obtain hle | hwatch := h
  · omega
  · simp [hwatch] at hloud

/-- A zone raised from some level is above CLEAR, where the wanted pattern is that of R175 without the CLEAR row. -/
theorem wanted_of_raised {z : Zone} {n : Nat} (h : n < z.level.rank) :
    z.wanted = match z.level with
      | .alarm => .alarm | .warn => .warn | .watch => if z.degraded then .fault else .watch | .clear => .off := by
  unfold Zone.wanted
  cases hl : z.level with
  | clear => rw [hl] at h; exact absurd h (Nat.not_lt_zero n)
  | watch | warn | alarm => rfl

/-- The wanted pattern of a channel with a zone is that zone's (R175). -/
theorem wantedAt_of_zone {zones : List Zone} {k : Nat} {z : Zone} (h : zones[k]? = some z) :
    wantedAt zones k = z.wanted := by
  simp only [wantedAt, h]

/-- Outside LULL an evaluation hands each generator the wanted pattern of its channel's new record (R175). -/
theorem evaluate_gens_getElem? {s : State} {k : Nat} {g : Gen} {z : Zone} (hmode : s.mode ≠ .lull)
    (hg : s.warn.gens[k]? = some g) (hz : (evaluate s).warn.zones[k]? = some z) :
    (evaluate s).warn.gens[k]? = some (g.refresh z.wanted) := by
  rw [evaluate_gens, if_neg hmode, refreshGens, List.getElem?_mapIdx, hg, Option.map_some, wantedAt_of_zone hz]

/-- Outside LULL the siren of a channel with a zone follows that zone's record (R180). -/
theorem sirenOn_of_zone {s : State} {k : Fin 4} {z : Zone} (hmode : s.mode ≠ .lull)
    (hz : s.warn.zones[k.val]? = some z) : s.sirenOn k = (z.level == .alarm && !z.ack) := by
  have hawake : (s.mode != .lull) = true := bne_iff_ne.2 hmode
  simp only [State.sirenOn, hz, hawake, Bool.and_true]

/-- A channel byte carries the zone and level of its channel's record (R102). -/
theorem channels_of_zone {w : Warn} {k : Nat} {z : Zone} (hk : k < 4) (hz : w.zones[k]? = some z) :
    w.channels[k]? = some (some (z.zone, z.level)) := by
  rw [Warn.channels, List.getElem?_map, List.getElem?_range hk, Option.map_some, hz, Option.map_some]

/-- Settles O49: the raised record is `applyLevel_of_lt`'s; the event is decided by `raisesLoud` over the zones, and the
lamp, the siren and the PRESENCE read the raised record. -/
theorem evaluationRaisesAtOnce : Obligations.EvaluationRaisesAtOnce := by
  intro s k z hz hlt
  have hzone := evaluate_zones_getElem? hz
  rw [applyLevel_of_lt hlt] at hzone
  refine ⟨hzone, fun hloud => ?event, fun hquiet => ?noEvent, fun g hmode hg => ?lamp, fun c hc hmode => ?siren,
    fun hk => channels_of_zone hk hzone⟩
  case event =>
    refine evaluate_events_of_raisesLoud (List.mem_of_getElem? hz) ?_
    rw [raisesLoud_eq]
    exact decide_eq_true ⟨hlt, hloud⟩
  case noEvent => exact evaluate_events_of_not_raisesLoud fun y hy => raisesLoud_eq_false (hquiet y hy)
  case lamp => exact ⟨_, _, evaluate_gens_getElem? hmode hg hzone, wanted_of_raised hlt, rfl⟩
  case siren =>
    subst hc
    rw [sirenOn_of_zone (s := evaluate s) hmode hzone]
    exact Bool.and_true _

end Sys2Proof.Machine
end

section
/-! PROOFS. How a property that every command keeps is kept by every step, and what the three invariants need of it. -/

namespace Sys2Proof.Machine

/-- A property that neither reads the queue nor is lost by a command is kept by every step (log 1). -/
theorem step_keeps {P : State → Prop} (hqueue : ∀ (s : State) (q : List Instr), P s → P { s with pending := q })
    (hexec : ∀ (c : Instr) (s t : State), P s → exec c s = .next t → P t) {s t : State} (hs : P s)
    (h : step s = .next t) : P t := by
  unfold step at h
  split at h
  next => cases h; exact hs
  next c rest _ => exact hexec c _ t (hqueue s rest hs) h

end Sys2Proof.Machine
end

section
/-! PROOFS. The bounds on the buffers (O58): what an operation must keep for the bounds to carry over it, shown for each
operation, and then for each command. -/

namespace Sys2Proof.Machine

/-- What carries the bounds from `s` to `t`, where no restart and no load lies between: the same configuration, a mode
that runs exactly when the one before did, and each buffer's bound kept. -/
structure BoundsCarry (s t : State) : Prop where
  loader : t.loader = s.loader
  runs : t.mode.runs = s.mode.runs
  slots : s.table.slots.length = 8 → t.table.slots.length = 8
  openLabel : (∀ l, s.fusion.openLabel = some l → l.sightings.length ≤ 32) →
    ∀ l, t.fusion.openLabel = some l → l.sightings.length ≤ 32
  window : s.detector.window.length = 16 → t.detector.window.length = 16
  priming : s.detector.priming ≤ 16 → t.detector.priming ≤ 16
  dustRun : s.detector.dustRun ≤ 8 → t.detector.dustRun ≤ 8
  vaneRun : s.detector.vaneRun ≤ 8 → t.detector.vaneRun ≤ 8
  outbound : s.outbound.length ≤ 8 → t.outbound.length ≤ 8
  entries : t.roster.entries.length = s.roster.entries.length
  quietRun : s.roster.quietRun ≤ 3 → t.roster.quietRun ≤ 3
  history : s.agree.history.length ≤ 4 → t.agree.history.length ≤ 4
  zones : t.warn.zones.length = s.warn.zones.length
  gens : t.warn.gens.length = s.warn.gens.length
  ring : s.trace.ring.length ≤ 48 → t.trace.ring.length ≤ 48

namespace BoundsCarry

theorem refl (s : State) : BoundsCarry s s := by constructor <;> simp

theorem trans {s t u : State} (h : BoundsCarry s t) (k : BoundsCarry t u) : BoundsCarry s u where
  loader := k.loader.trans h.loader
  runs := k.runs.trans h.runs
  slots := k.slots ∘ h.slots
  openLabel := k.openLabel ∘ h.openLabel
  window := k.window ∘ h.window
  priming := k.priming ∘ h.priming
  dustRun := k.dustRun ∘ h.dustRun
  vaneRun := k.vaneRun ∘ h.vaneRun
  outbound := k.outbound ∘ h.outbound
  entries := k.entries.trans h.entries
  quietRun := k.quietRun ∘ h.quietRun
  history := k.history ∘ h.history
  zones := k.zones.trans h.zones
  gens := k.gens.trans h.gens
  ring := k.ring ∘ h.ring

/-- Either branch of a choice. -/
theorem ite {s t u : State} {c : Prop} [Decidable c] (h : c → BoundsCarry s t) (k : ¬c → BoundsCarry s u) :
    BoundsCarry s (if c then t else u) := by
  split
  next hc => exact h hc
  next hc => exact k hc

end BoundsCarry

/-- The bounds carry over. -/
theorem Bounded.carry {s t : State} (hs : Bounded s) (h : BoundsCarry s t) : Bounded t where
  inForce := by rw [h.loader, h.runs, hs.inForce]
  passed := by rw [h.loader]; exact hs.passed
  slots := h.slots hs.slots
  openLabel := h.openLabel hs.openLabel
  window := h.window hs.window
  priming := h.priming hs.priming
  dustRun := h.dustRun hs.dustRun
  vaneRun := h.vaneRun hs.vaneRun
  outbound := h.outbound hs.outbound
  entries := by rw [h.entries, hs.entries]; simp only [State.profile, h.loader]
  quietRun := h.quietRun hs.quietRun
  history := h.history hs.history
  zones := h.zones.trans_le hs.zones
  gens := h.gens.trans hs.gens
  ring := h.ring hs.ring

/-! ### Shared operations -/

/-- An offer leaves at most 48 entries (R184). -/
theorem Trace.offer_ring_length {t : Trace} (h : t.ring.length ≤ 48) (e : TraceEntry) : (t.offer e).ring.length ≤ 48 := by
  unfold Trace.offer
  split
  · exact pushEntry_length _ _
  · exact h

@[simp] theorem refreshGens_length (zones : List Zone) (gens : List Gen) :
    (refreshGens zones gens).length = gens.length := by simp [refreshGens]

@[simp] theorem resumeGens_length (zones : List Zone) (gens : List Gen) :
    (resumeGens zones gens).length = gens.length := by simp [resumeGens]

@[simp] theorem withZones_gens_length (zones : List Zone) (s : State) :
    (withZones zones s).warn.gens.length = s.warn.gens.length := by
  simp only [withZones]
  split <;> simp

namespace BoundsCarry

theorem raiseIf (b : Bool) (e : StatusEvent) (s : State) : BoundsCarry s (raiseIf b e s) := by constructor <;> simp

theorem raiseEvent (e : StatusEvent) (s : State) : BoundsCarry s (raiseEvent e s) := by constructor <;> simp

theorem offer (k : TraceKind) (src : Option Station) (fr : Option FrameKind) (d : Detail) (s : State) :
    BoundsCarry s (offer k src fr d s) := by
  constructor
  case ring => exact fun h => Trace.offer_ring_length h _
  all_goals simp

theorem withZones {zones : List Zone} {s : State} (h : zones.length = s.warn.zones.length) :
    BoundsCarry s (withZones zones s) := by
  constructor
  case zones => exact h
  all_goals simp

theorem evaluate (s : State) : BoundsCarry s (evaluate s) :=
  (withZones (List.length_map _)).trans (raiseIf _ _ _)

theorem evaluateIf (b : Bool) (s : State) : BoundsCarry s (evaluateIf b s) := ite (fun _ => evaluate s) (fun _ => refl s)

theorem evaluateAtExpiry (k : Nat) (s : State) : BoundsCarry s (evaluateAtExpiry k s) :=
  (withZones (List.length_mapIdx)).trans (raiseIf _ _ _)

end BoundsCarry
end Sys2Proof.Machine
end

section
/-! PROOFS. The bounds over the operations of each block. -/

namespace Sys2Proof.Machine

/-! ### Sizes that an operation keeps -/

@[simp] theorem setDegraded_length (b : Bool) (zones : List Zone) : (setDegraded b zones).length = zones.length := by
  simp [setDegraded]

@[simp] theorem zonesAfterClose_length (lost pending : Bool) (zones : List Zone) :
    (zonesAfterClose lost pending zones).length = zones.length := by
  unfold zonesAfterClose
  repeat' split
  all_goals simp

@[simp] theorem zonesAfterCheck_length (st : AgreeState) (run : Byte) (now : Bool) (zones : List Zone) :
    (zonesAfterCheck st run now zones).length = zones.length := by
  unfold zonesAfterCheck
  repeat' split
  all_goals simp

@[simp] theorem Roster.close_length (own : Station) (r : Roster) :
    (r.close own).entries.length = r.entries.length := by simp [Roster.close, closeEntries]

/-- The quiet close run stops at 3 (R125). -/
theorem quietRunAfter_le (own : Station) (r : Roster) : quietRunAfter own r ≤ 3 := by
  unfold quietRunAfter
  split <;> omega

theorem Roster.close_quietRun {own : Station} {r : Roster} (h : r.quietRun ≤ 3) : (r.close own).quietRun ≤ 3 := by
  simp only [Roster.close]
  split
  · exact quietRunAfter_le own r
  · exact h

@[simp] theorem Mode.afterMark_runs (m : Mode) : m.afterMark.runs = m.runs := by cases m <;> rfl

@[simp] theorem emptiedSlot_length (p : Profile) (i : Nat) (slots : List Front) :
    (emptiedSlot p i slots).length = slots.length := by simp [emptiedSlot]

@[simp] theorem writeSlot_slots_length (g : Sighting) (label : Word16) (i : Nat) (r : Front × List ExcReport) (s : State) :
    (writeSlot g label i r s).table.slots.length = s.table.slots.length := by
  rw [writeSlot_frame]
  exact List.length_set

@[simp] theorem placeOnset_slots_length (g : Sighting) (label : Word16) (now : Tick) (s : State) :
    (placeOnset g label now s).table.slots.length = s.table.slots.length := by
  unfold placeOnset
  repeat' split
  all_goals simp [createFront]

@[simp] theorem applySighting_slots_length (g : Sighting) (label : Word16) (now : Tick) (s : State) :
    (applySighting g label now s).table.slots.length = s.table.slots.length := by
  unfold applySighting
  split
  · rw [applyOnset, placeOnset_slots_length, reportBearings_frame]
  · unfold applySubside
    repeat' split
    all_goals simp

/-- A label that opens at a MARK is empty (R23). -/
theorem Fusion.atMark_openLabel (f : Fusion) (number : Word16) (now : Tick) :
    (f.atMark number now).openLabel = some ⟨number, []⟩ := by
  unfold Fusion.atMark
  repeat' split
  all_goals rfl

/-- What a Sample may change in CALM and RISING (R71, R72). -/
theorem Detector.rise_frame (d : Detector) (p : Profile) (own : Station) (x : Sample) :
    (d.rise p own x).1 = { d with
      state := (d.rise p own x).1.state, run := (d.rise p own x).1.run, gust := (d.rise p own x).1.gust
      baselineAtOnset := (d.rise p own x).1.baselineAtOnset, firstEasing := (d.rise p own x).1.firstEasing
      nextSid := (d.rise p own x).1.nextSid } := by
  unfold Detector.rise
  repeat' split
  all_goals rfl

/-- What a Sample may change in GUSTING and EASING (R73, R74). -/
theorem Detector.gustSample_frame (d : Detector) (p : Profile) (own : Station) (g : GustRecord) (x : Sample) :
    (d.gustSample p own g x).1 = { d with
      state := (d.gustSample p own g x).1.state, gust := (d.gustSample p own g x).1.gust
      baselineAtOnset := (d.gustSample p own g x).1.baselineAtOnset
      firstEasing := (d.gustSample p own g x).1.firstEasing
      refractoryLeft := (d.gustSample p own g x).1.refractoryLeft
      nextSid := (d.gustSample p own g x).1.nextSid } := by
  unfold Detector.gustSample Detector.enterRefractory
  repeat' split
  all_goals rfl

/-- What the evaluation of a Sample by the detector's state may change (R68). -/
theorem Detector.judge_frame (d : Detector) (p : Profile) (own : Station) (x : Sample) :
    (d.judge p own x).1 = { d with
      state := (d.judge p own x).1.state, run := (d.judge p own x).1.run, gust := (d.judge p own x).1.gust
      baselineAtOnset := (d.judge p own x).1.baselineAtOnset, firstEasing := (d.judge p own x).1.firstEasing
      refractoryLeft := (d.judge p own x).1.refractoryLeft, nextSid := (d.judge p own x).1.nextSid } := by
  unfold Detector.judge
  split
  · rw [Detector.rise_frame]
  · rw [Detector.rise_frame]
  · rw [Detector.rise_frame]
  · rfl
  · rw [Detector.gustSample_frame]
  · rw [Detector.gustSample_frame]
  · rfl

/-- What a blind Sample may change (R69). -/
theorem Detector.goBlind_frame (d : Detector) (own : Station) (x : Sample) :
    (d.goBlind own x).1 = { d with
      state := .blind, run := (d.goBlind own x).1.run, gust := (d.goBlind own x).1.gust
      baselineAtOnset := (d.goBlind own x).1.baselineAtOnset, firstEasing := (d.goBlind own x).1.firstEasing
      refractoryLeft := none, nextSid := (d.goBlind own x).1.nextSid } := by
  unfold Detector.goBlind
  split
  all_goals rfl

/-- The window, the priming count and the run counts after a Sample: the detector's tables write none of them
(R67, R77). -/
theorem Detector.take_counts (d : Detector) (p : Profile) (own : Station) (x : Sample) (v : Bool) :
    (d.take p own x v).1.window = d.window.drop 1 ++ [x] ∧ (d.take p own x v).1.priming = min 16 (d.priming + 1)
      ∧ (d.take p own x v).1.dustRun = runCount8 x.dust.isNone d.dustRun
      ∧ (d.take p own x v).1.vaneRun = runCount8 v d.vaneRun := by
  simp only [Detector.take, Detector.examine, Detector.rederive]
  split
  · rw [Detector.goBlind_frame]
    exact ⟨rfl, rfl, rfl, rfl⟩
  · rw [Detector.judge_frame]
    exact ⟨rfl, rfl, rfl, rfl⟩

theorem runCount8_le (b : Bool) (n : Nat) : runCount8 b n ≤ 8 := by
  unfold runCount8
  split <;> omega

/-! ### The carry, block by block -/

namespace BoundsCarry

theorem enterLull {s : State} (h : s.mode = .active) (b : Nat) : BoundsCarry s (enterLull b s) := by
  constructor
  case runs => rw [h]; rfl
  case zones => exact rfl
  case gens => exact List.length_map _
  all_goals simp

theorem finishAt (b : Nat) (s : State) : BoundsCarry s (finishAt b s) :=
  ite (fun h => enterLull (by simp [State.lullReady] at h; tauto) b) (fun _ => by constructor <;> simp)

theorem finish (s : State) : BoundsCarry s (finish s) := finishAt _ s

theorem finishAtTick (s : State) : BoundsCarry s (finishAtTick s) := finishAt _ s

theorem wakeAfter {s : State} (h : s.mode = .lull) (d : Nat) (atOpen : Bool) : BoundsCarry s (wakeAfter d atOpen s) := by
  constructor
  case runs => rw [h]; rfl
  all_goals simp

theorem wakeByPanel {s : State} (h : s.mode = .lull) : BoundsCarry s (wakeByPanel s) := by
  refine trans ?_ (wakeAfter ?_ _ _)
  · constructor <;> simp
  · exact h

theorem wakeIfLull (s : State) : BoundsCarry s (wakeIfLull s) := ite (fun h => wakeByPanel h.1) (fun _ => refl s)

theorem tickTimers (s : State) : BoundsCarry s (tickTimers s) := by
  constructor
  case window => exact id
  case priming => exact id
  case dustRun => exact id
  case vaneRun => exact id
  case zones => exact List.length_map _
  case gens => exact rfl
  all_goals simp

theorem awakeTick (s : State) : BoundsCarry s (awakeTick s) := by
  refine trans ?_ (tickTimers _)
  constructor
  case gens => exact List.length_map _
  all_goals simp

theorem lullTick (s : State) : BoundsCarry s (lullTick s) := by
  refine trans ?_ (tickTimers _)
  constructor <;> simp

theorem judgeWindow (n : Nat) (s : State) : BoundsCarry s (judgeWindow n s) := by constructor <;> simp

theorem adopt (t : Tick) (s : State) : BoundsCarry s (adopt t s) := by constructor <;> simp

theorem hear (i : Station) (s : State) : BoundsCarry s (hear i s) := by
  constructor
  case entries => exact List.length_modify _ _ _
  case quietRun => exact id
  all_goals simp

theorem recordPresence (i : Station) (p : Presence) (s : State) : BoundsCarry s (recordPresence i p s) := by
  constructor
  case entries => exact List.length_modify _ _ _
  case quietRun => exact id
  all_goals simp

theorem takeClose (lost : Bool) (s : State) : BoundsCarry s (takeClose lost s) :=
  trans (t := { s with warn := { s.warn with lineLost := lost, pendingAgreed := false } }) (by constructor <;> simp)
    (withZones (zonesAfterClose_length _ _ _))

theorem takeCheck (after : Bool) (st : AgreeState) (run : Byte) (s : State) :
    BoundsCarry s (takeCheck after st run s) :=
  trans (t := { s with warn := { s.warn with
        runCount := run, agree := st
        pendingAgreed := s.warn.pendingAgreed || (st == .agreed && !after) } }) (by constructor <;> simp)
    (withZones (zonesAfterCheck_length _ _ _ _))

theorem closeCycle (s : State) : BoundsCarry s (closeCycle s) := by
  refine trans (trans ?_ (raiseIf _ _ _)) (takeClose _ _)
  constructor
  case entries => exact Roster.close_length _ _
  case quietRun => exact Roster.close_quietRun
  all_goals simp

theorem becomeDiverged (s : State) : BoundsCarry s (becomeDiverged s) :=
  ite (fun _ => refl s)
    (fun _ => trans (t := { s with agree := { s.agree with state := .diverged, installed := false } })
      (by constructor <;> simp)
      ((raiseEvent _ _).trans (offer _ _ _ _ _)))

theorem becomeState (st : AgreeState) (s : State) : BoundsCarry s (becomeState st s) :=
  ite (fun _ => becomeDiverged s) (fun _ => by constructor <;> simp)

theorem applyJudgement (group : List Station) (st : AgreeState) (s : State) :
    BoundsCarry s (applyJudgement group st s) := by
  refine trans (becomeState st s) ?_
  constructor
  case history => exact id
  case ring => exact id
  all_goals simp

theorem runCheck (c : Word16) (overrun after : Bool) (s : State) : BoundsCarry s (runCheck c overrun after s) := by
  unfold Machine.runCheck
  split
  · exact refl s
  · refine trans ?_ (takeCheck _ _ _ _)
    exact applyJudgement _ _ s

theorem discardStaging (r : DiscardReason) (s : State) : BoundsCarry s (discardStaging r s) := by
  refine trans ?_ (offer _ _ _ _ _)
  constructor <;> simp

theorem addToStaging (src : Station) (t : TransferBody) (s : State) : BoundsCarry s (addToStaging src t s) := by
  unfold Machine.addToStaging
  split
  · exact discardStaging _ s
  · constructor <;> simp

theorem takeTransfer (src : Station) (t : TransferBody) (s : State) : BoundsCarry s (takeTransfer src t s) := by
  unfold Machine.takeTransfer
  repeat' split
  · constructor <;> simp
  · exact addToStaging src t s
  · refine trans ?_ (addToStaging _ _ _)
    constructor <;> simp

theorem install (s : State) : BoundsCarry s (install s) := by
  refine trans ?_ ((offer _ _ _ _ _).trans (evaluate _))
  rw [reportSlots_frame]
  constructor
  case slots => exact fun _ => (Staging.table_slots _ _).1
  case history => exact storePair_length _ _
  all_goals simp

theorem settleActive (s : State) : BoundsCarry s (settleActive s) :=
  ite (fun _ => discardStaging _ s) fun _ => ite (fun _ => discardStaging _ s) fun _ =>
    ite (fun _ => discardStaging _ s) fun _ => ite (fun _ => by constructor <;> simp) fun _ => install s

theorem clearDiscarded (s : State) : BoundsCarry s (clearDiscarded s) := by constructor <;> simp

theorem settleStaging (s : State) : BoundsCarry s (settleStaging s) :=
  (ite (fun _ => settleActive s) (fun _ => refl s)).trans (clearDiscarded _)

theorem staleStaging (s : State) : BoundsCarry s (staleStaging s) :=
  (ite (fun _ => discardStaging _ s) (fun _ => refl s)).trans (clearDiscarded _)

theorem addSighting (g : Sighting) (s : State) : BoundsCarry s (addSighting g s) := by
  unfold Machine.addSighting
  split
  next => exact refl s
  next l hl =>
    refine ite (fun hlen => ?_) (fun _ => by constructor <;> simp)
    constructor
    case openLabel => exact fun _ l' h => by cases h; simp; exact hlen
    all_goals simp

theorem markLabels (number : Word16) (now : Tick) (s : State) : BoundsCarry s (markLabels number now s) := by
  have hopen : ∀ l, (s.fusion.atMark number now).openLabel = some l → l.sightings.length ≤ 32 := by
    intro l h
    rw [Fusion.atMark_openLabel] at h
    cases h
    exact Nat.zero_le _
  refine ite (fun _ => trans ?_ (becomeDiverged _)) (fun _ => ?_)
  all_goals
    constructor
    case openLabel => exact fun _ => hopen
    all_goals simp

theorem applySighting (g : Sighting) (label : Word16) (now : Tick) (s : State) :
    BoundsCarry s (applySighting g label now s) := by constructor <;> simp

theorem startWaiting (s : State) : BoundsCarry s (startWaiting s) := by constructor <;> simp

theorem takeUp (s : State) : BoundsCarry s (takeUp s) := ite (fun _ => install s) (fun _ => startWaiting s)

theorem sightingStep (l : Label) (g : Sighting) (s : State) : BoundsCarry s (sightingStep l g s) := by
  refine trans (t := dropHead l (Machine.applySighting g l.number l.now s)) ?_
    (ite (fun _ => takeUp _) (fun _ => refl _))
  refine (applySighting g l.number l.now s).trans ?_
  constructor
  case openLabel => exact id
  all_goals simp

theorem closingStep (l : Label) (s : State) : BoundsCarry s (closingStep l s) := by
  refine trans ?_ (evaluate _)
  constructor
  case slots => exact fun h => by simpa [agedTable] using h
  case openLabel => exact id
  case history => exact fun h => storePair_length _ _ h
  all_goals simp

theorem offerOutbound (g : Sighting) (s : State) : BoundsCarry s (offerOutbound g s) := by
  constructor
  case outbound =>
    intro h
    simp only [Machine.offerOutbound]
    split
    next => exact h
    next hr =>
      simp [State.refusesOutbound] at hr
      simp
      omega
  all_goals simp

theorem handMade (made : Option Sighting) (s : State) : BoundsCarry s (handMade made s) := by
  unfold Machine.handMade
  split
  · exact (ite (fun h => wakeAfter h.1 _ _) (fun _ => refl s)).trans (offerOutbound _ _)
  · exact refl s

theorem takeSample (x : Sample) (v : Bool) (s : State) : BoundsCarry s (takeSample x v s) := by
  refine trans (trans (trans ?_ (raiseIf _ _ _)) (handMade _ _)) (evaluateIf _ _)
  obtain ⟨hwindow, hpriming, hdust, hvane⟩ := Detector.take_counts s.detector s.profile s.own x v
  constructor
  case window => exact fun h => by simp [hwindow, h]
  case priming => exact fun _ => by rw [hpriming]; exact Nat.min_le_left _ _
  case dustRun => exact fun _ => by rw [hdust]; exact runCount8_le _ _
  case vaneRun => exact fun _ => by rw [hvane]; exact runCount8_le _ _
  all_goals simp

theorem endPeriod (dustReady : Bool) (s : State) : BoundsCarry s (endPeriod dustReady s) := by
  refine trans ?_ (takeSample _ _ _)
  constructor <;> simp

theorem leaveListening (s : State) : BoundsCarry s (leaveListening s) := by
  unfold Machine.leaveListening
  split
  · refine trans ?_ (evaluate _)
    constructor
    case window => exact id
    case priming => exact id
    case dustRun => exact id
    case vaneRun => exact id
    all_goals simp
  · exact refl s

end BoundsCarry
end Sys2Proof.Machine
end

section
/-! PROOFS. The bounds over the operations of the Line Controller and the Panel Port, over a load and over the two
restarts, and with them over every command (O58). -/

namespace Sys2Proof.Machine

/-- The modes that are awake run. -/
theorem Mode.runs_of_awake {m : Mode} (h : m.awake = true) : m.runs = true := by
  cases m <;> simp_all [Mode.awake, Mode.runs]

theorem State.runs_of_awake {s : State} (h : s.awake = true) : s.mode.runs = true := by
  simp only [State.awake, Bool.and_eq_true] at h
  exact Mode.runs_of_awake h.2

theorem State.awake_of_receives {s : State} (h : s.receives = true) : s.awake = true := by
  simp only [State.receives, Bool.and_eq_true] at h
  exact h.1.1

/-- A MARK is sent only by a station that is awake. -/
theorem State.awake_of_sendingMark {s : State} {m : MarkBody} (h : s.sendingMark = some m) : s.awake = true := by
  unfold State.sendingMark at h
  split at h
  next ha _ => exact ha
  next => cases h

namespace BoundsCarry

theorem enterMute (r : MuteReason) {s : State} (h : s.mode.runs = true) : BoundsCarry s (enterMute r s) := by
  refine ite (fun _ => refl s) (fun _ => trans ?_ (raiseEvent _ _))
  constructor
  case runs => exact by rw [h]; rfl
  all_goals simp

theorem endOpportunity (k : Nat) (s : State) : BoundsCarry s (endOpportunity k s) :=
  ite (fun _ => (settleStaging s).trans (by constructor <;> simp))
    (fun _ => (settleStaging s).trans (by constructor <;> simp))

theorem endCurrent (s : State) : BoundsCarry s (endCurrent s) := by
  unfold Machine.endCurrent
  split
  · exact endOpportunity _ s
  · exact refl s

theorem frameOver (final : Bool) (s : State) : BoundsCarry s (frameOver final s) :=
  ite (fun _ => endCurrent s) (fun _ => by constructor <;> simp)

theorem cutOpportunity (k : Nat) (s : State) : BoundsCarry s (cutOpportunity k s) := by
  refine ite (fun _ => trans ?_ (offer _ _ _ _ _)) (fun _ => refl s)
  constructor <;> simp

theorem markOpened (s : State) : BoundsCarry s (markOpened s) := by
  refine trans ?_ ((offer _ _ _ _ _).trans (offer _ _ _ _ _))
  constructor <;> simp

theorem closeAndCheck (c : Word16) (overrun : Bool) (s : State) : BoundsCarry s (closeAndCheck c overrun s) := by
  refine ite (fun _ => ?_) (fun _ => ?_)
  · refine trans ?_ ((closeCycle _).trans (runCheck _ _ _ _))
    constructor <;> simp
  · refine trans ?_ ((runCheck _ _ _ _).trans (closeCycle _))
    constructor <;> simp

theorem markJudged (before : Mode) (own : Bool) (c : Word16) (overrun : Bool) (s : State) :
    BoundsCarry s (markJudged before own c overrun s) := by
  unfold Machine.markJudged
  split
  · refine trans ?_ ((closeCycle _).trans (leaveListening _))
    constructor <;> simp
  · exact (closeCycle s).trans (becomeDiverged _)
  · exact closeAndCheck _ _ s

theorem markLine (m : MarkBody) (s : State) : BoundsCarry s (markLine m s) := by
  constructor
  case runs => exact Mode.afterMark_runs _
  all_goals simp

theorem handleMark (own : Bool) (src : Station) (m : MarkBody) (s : State) : BoundsCarry s (handleMark own src m s) :=
  (((((markLine m s).trans (ite (fun _ => markOpened _) (fun _ => refl _))).trans (adopt m.time _)).trans
    (hear src _)).trans ((staleStaging _).trans (markLabels _ _ _))).trans (markJudged _ _ _ _ _)

theorem frameIn (src : Station) (b : Body) (s : State) : BoundsCarry s (frameIn src b s) := by
  refine trans ?_ (offer _ _ _ _ _)
  constructor <;> simp

theorem lineIdle (s : State) : BoundsCarry s (lineIdle s) := by constructor <;> simp

theorem abandonPlan (s : State) : BoundsCarry s (abandonPlan s) := by constructor <;> simp

theorem alignTo (src : Station) (kind : FrameKind) (s : State) : BoundsCarry s (alignTo src kind s) := by
  refine ite (fun _ => (settleStaging s).trans (trans ?_ (offer _ _ _ _ _))) (fun _ => refl s)
  constructor <;> simp

theorem resyncEntered (src : Station) (b : Body) {s : State} (h : s.mode.runs = true) :
    BoundsCarry s (resyncEntered src b s) := by
  unfold Machine.resyncEntered
  constructor
  case runs => exact by rw [h]; rfl
  case openLabel => exact fun _ l hl => by cases hl
  case history => exact id
  all_goals simp

theorem enterResync (src : Station) (b : Body) {s : State} (h : s.mode.runs = true) :
    BoundsCarry s (enterResync src b s) :=
  (resyncEntered src b h).trans ((frameIn _ _ _).trans (offer _ _ _ _ _))

theorem deliver (src : Station) (b : Body) (s : State) : BoundsCarry s (deliver src b s) := by
  unfold Machine.deliver
  split
  · exact refl s
  · exact (hear src s).trans (recordPresence src _ _)
  · exact ite (fun _ => hear src s) (fun _ => (hear src s).trans (addSighting _ _))
  · exact ite (fun _ => hear src s) (fun _ => (hear src s).trans (takeTransfer _ _ _))

theorem takeFrame (src : Station) (final : Bool) (b : Body) {s : State} (h : s.mode.runs = true) :
    BoundsCarry s (takeFrame src final b s) := by
  refine ite (fun _ => ?_) fun _ => ite (fun _ => ?_) fun _ => ?_
  · exact (((lineIdle s).trans (abandonPlan _)).trans (enterResync src b h)).trans
      ((deliver src b _).trans (frameOver final _))
  · exact (frameIn src b s).trans ((lineIdle _).trans (abandonPlan _))
  · refine ((frameIn src b s).trans ((lineIdle _).trans (abandonPlan _))).trans ?_
    refine (alignTo src b.kind _).trans (trans ?_ ((deliver src b _).trans (frameOver final _)))
    constructor <;> simp

theorem receive (kind : FrameKind) (frame : List RxChar) (s : State) : BoundsCarry s (receive kind frame s) := by
  unfold Machine.receive
  split
  next src final b hr _ =>
    have hruns : s.mode.runs = true := State.runs_of_awake (State.awake_of_receives hr)
    split
    · split
      · exact (frameIn _ _ s).trans (handleMark _ _ _ _)
      · exact (takeFrame src final b hruns).trans (finish _)
    · exact refl s
  next => exact refl s

theorem restartSilence (s : State) : BoundsCarry s (restartSilence s) := by constructor <;> simp

theorem rejectFrame (r : RejectReason) (isCut : Bool) (h : Option Byte) {s : State} (hs : s.mode.runs = true) :
    BoundsCarry s (rejectFrame r isCut h s) := by
  have hnote : BoundsCarry s (noteRejection r isCut h s) := by
    refine ite (fun _ => refl s) (fun _ => trans ?_ (offer _ _ _ _ _))
    constructor <;> simp
  refine hnote.trans (trans ?_ ((lineIdle _).trans (restartSilence _)))
  refine ite (fun _ => (offer _ _ _ _ _).trans (enterMute _ ?_)) (fun _ => refl _)
  simpa using hs

theorem openExpired (s : State) : BoundsCarry s (openExpired s) := by
  unfold Machine.openExpired
  split
  all_goals constructor <;> simp

theorem quietWaitOver (skipped : Bool) (s : State) : BoundsCarry s (quietWaitOver skipped s) :=
  ite (fun _ => ite (fun _ => by constructor <;> simp) (fun _ => by constructor <;> simp))
    (fun _ => by constructor <;> simp)

theorem collide (s : State) : BoundsCarry s (collide s) := by
  refine trans ?_ (offer _ _ _ _ _)
  constructor <;> simp

theorem beginFrame (p : Plan) (b : Option Body) (s : State) : BoundsCarry s (beginFrame p b s) := by
  unfold Machine.beginFrame
  split
  all_goals constructor <;> simp

theorem beginNext (p : Plan) (s : State) : BoundsCarry s (beginNext p s) :=
  ite (fun _ => beginFrame _ _ s) (fun _ => abandonPlan s)

theorem failAttempt (b : Body) (p : Plan) (s : State) : BoundsCarry s (failAttempt b p s) := by
  refine trans ?_ (offer _ _ _ _ _)
  constructor <;> simp

end BoundsCarry

/-- A sighting that leaves the queue does not lengthen it. -/
theorem outboundAfter_length_le (k : FrameKind) (q : List Sighting) : (outboundAfter k q).length ≤ q.length := by
  unfold outboundAfter
  split
  · exact (List.length_drop ..).trans_le (Nat.sub_le _ _)
  · exact le_rfl

namespace BoundsCarry

theorem dropFrame (b : Body) (p : Plan) (s : State) : BoundsCarry s (dropFrame b p s) := by
  constructor
  case outbound => exact fun h => (outboundAfter_length_le _ _).trans h
  all_goals simp

theorem frameOut (b : Body) (p : Plan) (s : State) : BoundsCarry s (frameOut b p s) := by
  refine trans ?_ (offer _ _ _ _ _)
  constructor <;> simp

theorem transferSent (p : Plan) (s : State) : BoundsCarry s (transferSent p s) := by
  refine ite (fun _ => trans ?_ (offer _ _ _ _ _)) (fun _ => refl s)
  constructor <;> simp

theorem takeOwn (b : Body) (p : Plan) (s : State) : BoundsCarry s (takeOwn b p s) := by
  unfold Machine.takeOwn
  split
  · exact refl s
  · exact (hear _ s).trans (recordPresence _ _ _)
  · refine trans ?_ ((hear _ _).trans (addSighting _ _))
    constructor
    case outbound => exact (outboundAfter_length_le .sighting s.outbound).trans
    all_goals simp
  · exact (hear _ s).trans (transferSent _ _)

theorem noteTaken (args : List Byte) (s : State) : BoundsCarry s (noteTaken args s) := by constructor <;> simp

theorem respond (r : List Byte) (s : State) : BoundsCarry s (respond r s) := by constructor <;> simp

/-- A panel command carries the bounds where its body does. -/
theorem serve {s u body : State} (served : Bool) (count : Nat) (args : List Byte) (h : BoundsCarry u s)
    (k : BoundsCarry u body) : BoundsCarry u (serve served count args body s) :=
  ite (fun _ => h) fun _ => trans
    (ite (fun _ => h.trans (respond _ s)) fun _ => ite (fun _ => h.trans (respond _ s)) fun _ => k) (noteTaken _ _)

theorem answerRead (data : Option (List Byte)) (s : State) : BoundsCarry s (answerRead data s) := by
  unfold Machine.answerRead
  split
  all_goals exact respond _ s

theorem judgeArm (args : List Byte) (s : State) : BoundsCarry s (judgeArm args s) := by
  refine ite (fun _ => ?_) (fun _ => by constructor <;> simp)
  constructor
  case ring =>
    intro h
    simp only [answerOk, Trace.arm]
    split
    · exact Nat.zero_le _
    · exact h
  all_goals simp

theorem acknowledge (k : Nat) (s : State) : BoundsCarry s (acknowledge k s) := by
  unfold Machine.acknowledge
  constructor
  case zones => exact List.length_modify _ _ _
  all_goals simp

theorem judgeAcknowledge (k : Nat) (s : State) : BoundsCarry s (judgeAcknowledge k s) :=
  ite (fun _ => (acknowledge k s).trans (respond _ _)) (fun _ => respond _ s)

end BoundsCarry

/-! ### The bounds over a load and over the two restarts -/

/-- A channel stands for each zone that a mask names. -/
theorem zonesOf_length (e : StationEntry) : (zonesOf e).length = (maskZones e.zoneMask).length := by
  have hrange : List.range 8 = (List.finRange 8).map Fin.val := rfl
  rw [zonesOf, maskZones, hrange, List.filter_map, List.length_map, List.length_map]
  rfl

/-- An entry that is not faulty names at most four zones (R204). -/
theorem zonesOf_length_le {n : Nat} {e : StationEntry} (h : entryOk n e = true) : (zonesOf e).length ≤ 4 := by
  rw [zonesOf_length]
  unfold entryOk at h
  split at h
  · simp [within] at h
    omega
  · rw [eq_of_beq h]
    decide

/-- A passing image names a station of the yard whose entry is not faulty (R204). -/
theorem entryOk_of_passed {straps : Station} {m : List Byte} (h : judgeImage straps m = .none) :
    entryOk (imgByte m 132) (imgEntry m straps.val) = true := by
  unfold judgeImage at h
  split_ifs at h with _ _ _ hstrap htable
  simp only [Bool.not_eq_true, Bool.not_eq_false', stationTableOk, List.all_eq_true, List.mem_range] at htable
  exact htable _ (by omega)

/-- Every block at its values after restart, on entering LISTENING under a configuration that passed (R205). -/
theorem Bounded.enterListening {c : Loaded} {s : State} (hloaded : s.loader.loaded = some c)
    (hpassed : judgeImage c.number c.image = .none ∧ c = configOf c.number c.image) (hring : s.trace.ring.length ≤ 48)
    (vane : BitVec 4) (dustReady : Bool) : Bounded (enterListening c vane dustReady s) where
  inForce := by simp [Machine.enterListening, hloaded, Mode.runs]
  passed c' h := by
    simp only [Machine.enterListening, restartBlocks_loader, hloaded] at h
    cases h
    exact hpassed
  slots := List.length_replicate
  openLabel l h := by cases h
  window := rfl
  priming := Nat.zero_le _
  dustRun := Nat.zero_le _
  vaneRun := Nat.zero_le _
  outbound := Nat.zero_le _
  entries := by
    have hprofile : (Machine.enterListening c vane dustReady s).profile = c.profile := by
      simp only [State.profile, Machine.enterListening, restartBlocks_loader, hloaded]
    rw [hprofile]
    exact List.length_replicate
  quietRun := Nat.zero_le _
  history := Nat.zero_le _
  zones := by
    rw [hpassed.2]
    exact zonesOf_length_le (entryOk_of_passed hpassed.1)
  gens := (refreshGens_length _ _).trans List.length_replicate
  ring := hring

/-- A state whose blocks stand at their values after restart with no configuration in force (R207). -/
theorem Bounded.unloaded {s u : State} (hloaded : s.loader.loaded = none) (hmode : s.mode = .loading)
    (hring : s.trace.ring.length ≤ 48) (htable : s.table = (restartBlocks none u).table)
    (hfusion : s.fusion = (restartBlocks none u).fusion) (hdetector : s.detector = (restartBlocks none u).detector)
    (houtbound : s.outbound = (restartBlocks none u).outbound) (hroster : s.roster = (restartBlocks none u).roster)
    (hagree : s.agree = (restartBlocks none u).agree) (hwarn : s.warn = (restartBlocks none u).warn) : Bounded s where
  inForce := by rw [hloaded, hmode]; rfl
  passed c h := by rw [hloaded] at h; cases h
  slots := by rw [htable]; exact List.length_replicate
  openLabel l h := by rw [hfusion] at h; cases h
  window := by rw [hdetector]; rfl
  priming := by rw [hdetector]; exact Nat.zero_le _
  dustRun := by rw [hdetector]; exact Nat.zero_le _
  vaneRun := by rw [hdetector]; exact Nat.zero_le _
  outbound := by rw [houtbound]; exact Nat.zero_le _
  entries := by
    have hprofile : s.profile = Profile.absent := by simp only [State.profile, hloaded]
    rw [hroster, hprofile]
    rfl
  quietRun := by rw [hroster]; exact Nat.zero_le _
  history := by rw [hagree]; exact Nat.zero_le _
  zones := by rw [hwarn]; exact Nat.zero_le _
  gens := by rw [hwarn]; rfl
  ring := hring

theorem Bounded.coldRestart (b : Bool) (s : State) : Bounded (coldRestart b s) :=
  unloaded (u := s) rfl rfl (Nat.zero_le _) rfl rfl rfl rfl rfl rfl rfl

theorem Bounded.coldStart (s : State) : Bounded (coldStart s) :=
  unloaded (u := s) rfl rfl (Nat.zero_le _) rfl rfl rfl rfl rfl rfl rfl

theorem Bounded.warmRestart {s : State} (hs : Bounded s) (vane : BitVec 4) (dustReady : Bool) :
    Bounded (warmRestart vane dustReady s) := by
  have hring : s.restartTrace.ring.length ≤ 48 := by
    simp only [State.restartTrace]
    split
    · exact hs.ring
    · exact pushEntry_length _ _
  unfold Machine.warmRestart
  split
  next c hc => exact .enterListening (s := warmValues s) hc (hs.passed c hc) hring vane dustReady
  next => exact unloaded (u := s) rfl rfl hring rfl rfl rfl rfl rfl rfl rfl

theorem Bounded.endAttempt {s : State} (hs : Bounded s) (hmode : s.mode = .loading) (straps : Station)
    (image : List Byte) (vane : BitVec 4) (dustReady : Bool) : Bounded (endAttempt straps image vane dustReady s) := by
  have hnone : s.loader.loaded = none := by
    have := hs.inForce
    rw [hmode] at this
    simpa [Mode.runs] using this
  have hentries : s.roster.entries.length = Profile.absent.stations := by
    rw [hs.entries]
    simp only [State.profile, hnone]
  have hfail : ∀ (m : Mode) (l : Loader), m.runs = false → l.loaded = none →
      Bounded { s with mode := m, loader := l } := fun m l hm hl =>
    { hs with
      inForce := by simp [hm, hl]
      passed := fun c h => by simp [hl] at h
      entries := by simpa [State.profile, hl] using hentries }
  unfold Machine.endAttempt
  split
  next hpass =>
    unfold loadSucceeds
    refine .enterListening (c := configOf straps image) ?_ ⟨hpass, rfl⟩ ?_ vane dustReady
    · rfl
    · exact hs.ring
  next =>
    split
    · exact hfail s.mode ⟨.retryDelay, s.loader.attempts, _, some straps, none⟩ (by rw [hmode]; rfl) rfl
    · exact (hfail .configFault ⟨.settled, s.loader.attempts, _, some straps, none⟩ rfl rfl).carry (.raiseEvent _ _)

end Sys2Proof.Machine
end

section
/-! PROOFS. The bounds over every command and every step (O58). -/

namespace Sys2Proof.Machine

/-- Each command either restarts or loads, or carries the bounds. -/
theorem Bounded.exec {s t : State} (hs : Bounded s) (c : Instr) (h : exec c s = .next t) : Bounded t := by
  cases c with
  | powerOn =>
    obtain rfl := Host.Outcome.next.inj h
    split
    · exact .coldRestart true s
    · exact .coldStart s
  | resetAsserted =>
    obtain rfl := Host.Outcome.next.inj h
    exact .coldRestart true s
  | resetReleased =>
    obtain rfl := Host.Outcome.next.inj h
    split
    · exact .coldStart s
    · exact hs
  | loadAttemptEnd straps image vane dustReady =>
    obtain rfl := Host.Outcome.next.inj h
    split
    next hruns _ =>
      have hmode : s.mode = .loading := by simp [State.attemptRuns] at hruns; tauto
      exact Bounded.endAttempt (s := { s with straps := straps }) (hs.carry (by constructor <;> simp)) hmode _ image vane
        dustReady
    next => exact hs
  | loadRetryDelayExpiry straps =>
    obtain rfl := Host.Outcome.next.inj h
    split
    · exact { hs with inForce := hs.inForce }
    · exact hs
  | warmRestart vane dustReady =>
    obtain rfl := Host.Outcome.next.inj h
    split
    · exact hs.warmRestart vane dustReady
    · exact hs
  | panelTransactionCut =>
    obtain rfl := Host.Outcome.next.inj h
    exact hs.carry (.ite (fun _ => .refl s) fun _ => by constructor <;> simp)
  | panelUnknownCommand code args =>
    obtain rfl := Host.Outcome.next.inj h
    exact hs.carry (.ite (fun _ => .refl s) fun _ => (BoundsCarry.respond _ s).trans (.noteTaken _ _))
  | readStatus args | readException args =>
    obtain rfl := Host.Outcome.next.inj h
    exact hs.carry (.serve _ _ _ (.refl s) (.respond _ s))
  | readFront args | readRoster args | readZone args | readTrace args | readCounters args | readConfig args =>
    obtain rfl := Host.Outcome.next.inj h
    exact hs.carry (.serve _ _ _ (.refl s) (.answerRead _ s))
  | clearStatus args | clearException args | clearCounters args =>
    obtain rfl := Host.Outcome.next.inj h
    refine hs.carry (.serve _ _ _ (.refl s) (.trans ?_ (.respond _ _)))
    constructor <;> simp
  | armTrace args =>
    obtain rfl := Host.Outcome.next.inj h
    exact hs.carry (.serve _ _ _ (.refl s) (.judgeArm args s))
  | acknowledgeZone args =>
    obtain rfl := Host.Outcome.next.inj h
    exact hs.carry (.serve _ _ _ (.wakeIfLull s) ((BoundsCarry.wakeIfLull s).trans (.judgeAcknowledge _ _)))
  | restart args =>
    obtain rfl := Host.Outcome.next.inj h
    refine hs.carry (.serve _ _ _ (.wakeIfLull s) ((BoundsCarry.wakeIfLull s).trans (.trans ?_ (.respond _ _))))
    constructor <;> simp
  | anemometerEdge offset =>
    obtain rfl := Host.Outcome.next.inj h
    exact hs.carry (.ite (fun _ => by constructor <;> simp) fun _ => .refl s)
  | vaneCodeChange code =>
    obtain rfl := Host.Outcome.next.inj h
    exact hs.carry (.ite (fun _ => by constructor <;> simp) fun _ => .refl s)
  | dustPulse | dustReadyLow =>
    obtain rfl := Host.Outcome.next.inj h
    exact hs.carry (.ite (fun _ => by constructor <;> simp) fun _ => .refl s)
  | samplePeriodEnd dustReady =>
    obtain rfl := Host.Outcome.next.inj h
    exact hs.carry (.ite (fun _ => (BoundsCarry.endPeriod dustReady s).trans (.finishAtTick _)) fun _ => .refl s)
  | refractoryExpiry =>
    obtain rfl := Host.Outcome.next.inj h
    refine hs.carry (.ite (fun _ => .trans ?_ ((BoundsCarry.evaluate _).trans (.finishAtTick _))) fun _ => .refl s)
    constructor <;> simp
  | listenTimerExpiry =>
    obtain rfl := Host.Outcome.next.inj h
    exact hs.carry (.ite (fun _ => by constructor <;> simp) fun _ => .refl s)
  | openTimerExpiry =>
    obtain rfl := Host.Outcome.next.inj h
    refine hs.carry (.ite (fun hdue => .wakeAfter ?_ _ _) fun _ => .ite (fun _ => .openExpired s) fun _ => .refl s)
    simp [State.openDueInLull] at hdue
    tauto
  | receiverQuietWaitEnd =>
    obtain rfl := Host.Outcome.next.inj h
    split
    · exact hs.carry (.quietWaitOver _ s)
    · exact hs
  | silenceTimeout =>
    obtain rfl := Host.Outcome.next.inj h
    split
    · exact hs.carry ((BoundsCarry.cutOpportunity _ s).trans ((BoundsCarry.endOpportunity _ _).trans (.finish _)))
    · exact hs
  | planFix =>
    obtain rfl := Host.Outcome.next.inj h
    refine hs.carry (.ite (fun _ => .trans ?_ (.beginNext _ _)) fun _ => .refl s)
    constructor <;> simp
  | nextFrameStart =>
    obtain rfl := Host.Outcome.next.inj h
    split
    · exact hs.carry (.beginNext _ s)
    · exact hs
  | frameRepeat =>
    obtain rfl := Host.Outcome.next.inj h
    split
    · exact hs.carry (.ite (fun _ => .beginFrame _ _ s) fun _ => .abandonPlan s)
    · exact hs
  | markReceived frame | presenceReceived frame | sightingReceived frame | transferReceived frame =>
    obtain rfl := Host.Outcome.next.inj h
    exact hs.carry (.receive _ frame s)
  | frameRejected frame =>
    obtain rfl := Host.Outcome.next.inj h
    split
    next hr _ => exact hs.carry (.rejectFrame _ _ _ (State.runs_of_awake (State.awake_of_receives hr)))
    next => exact hs
  | echoFail =>
    obtain rfl := Host.Outcome.next.inj h
    split
    · refine hs.carry (.trans (.ite (fun _ => .failAttempt _ _ s) fun _ => ?_) (.finish _))
      exact (BoundsCarry.failAttempt _ _ s).trans (.dropFrame _ _ _)
    · exact hs
  | markCollision =>
    obtain rfl := Host.Outcome.next.inj h
    split
    next hm =>
      have hruns := State.runs_of_awake (State.awake_of_sendingMark hm)
      refine hs.carry (.trans (.ite (fun _ => ?_) fun _ => .collide s) (.finish _))
      exact (BoundsCarry.collide s).trans (.enterMute _ (by simpa using hruns))
    next => exact hs
  | markSent =>
    obtain rfl := Host.Outcome.next.inj h
    split
    · exact hs.carry (.handleMark _ _ _ s)
    · exact hs
  | frameSent =>
    obtain rfl := Host.Outcome.next.inj h
    split
    · exact hs.carry (((BoundsCarry.frameOut _ _ s).trans (.takeOwn _ _ _)).trans
        ((BoundsCarry.frameOver _ _).trans (.finish _)))
    · exact hs
  | sightingStepEnd =>
    obtain rfl := Host.Outcome.next.inj h
    split
    · split
      · exact hs.carry ((BoundsCarry.sightingStep _ _ s).trans (.finish _))
      · exact hs
    · exact hs
  | closingStepEnd =>
    obtain rfl := Host.Outcome.next.inj h
    split
    · refine hs.carry (.ite (fun _ => ?_) fun _ => .refl s)
      exact (BoundsCarry.closingStep _ s).trans ((BoundsCarry.takeUp _).trans (.finish _))
    · exact hs
  | perSecondEvaluation =>
    obtain rfl := Host.Outcome.next.inj h
    refine hs.carry (.ite (fun _ => .trans ?_ (.evaluate _)) fun _ => .refl s)
    constructor <;> simp
  | holdExpiry channel =>
    obtain rfl := Host.Outcome.next.inj h
    exact hs.carry (.ite (fun _ => (BoundsCarry.evaluateAtExpiry _ s).trans (.finishAtTick _)) fun _ => .refl s)
  | patternPeriodEnd channel =>
    obtain rfl := Host.Outcome.next.inj h
    refine hs.carry (.ite (fun _ => ?_) fun _ => .refl s)
    constructor
    case gens => exact List.length_modify _ _ _
    all_goals simp
  | calibrationWindowEnd count =>
    obtain rfl := Host.Outcome.next.inj h
    exact hs.carry (.ite (fun _ => (BoundsCarry.judgeWindow _ s).trans (.finishAtTick _)) fun _ => .refl s)
  | wakeTimerExpiry =>
    obtain rfl := Host.Outcome.next.inj h
    refine hs.carry (.ite (fun hdue => .wakeAfter ?_ _ _) fun _ => .refl s)
    simp [State.wakeDue] at hdue
    tauto
  | localTick =>
    obtain rfl := Host.Outcome.next.inj h
    exact hs.carry (.ite (fun _ => .refl s) fun _ => .ite (fun _ => .awakeTick s) fun _ =>
      .ite (fun _ => .lullTick s) fun _ => by constructor <;> simp)
  | frameStart =>
    obtain rfl := Host.Outcome.next.inj h
    split
    · exact hs.carry (by constructor <;> simp)
    · exact hs.carry (by constructor <;> simp)
    · exact hs

/-- Settles O58: no bound reads the queue, and every command keeps them (`Bounded.exec`). -/
theorem everyStepKeepsTheBounds : Obligations.EveryStepKeepsTheBounds := fun _ _ hs h =>
  step_keeps (fun _ _ hq => hq.carry (by constructor <;> simp)) (fun c _ _ hb hc => hb.exec c hc) hs h

end Sys2Proof.Machine
end

section
/-! PROOFS. Who may transmit (O59): the two ways in which an operation keeps the discipline, by leaving what it reads, or
by leaving neither a frame nor a plan; then each command. -/

namespace Sys2Proof.Machine

/-- What the discipline reads: the mode, the own number, and of the line the frame, the plan, the counter and the open
timer. -/
def State.lineView (s : State) : Mode × Station × Option TxFrame × Option Plan × Opp × OpenTimer :=
  (s.mode, s.own, s.line.tx, s.line.plan, s.line.opp, s.line.openTimer)

namespace LineDiscipline

/-- An operation that leaves what the discipline reads keeps it. -/
theorem congr {s t : State} (hs : LineDiscipline s) (h : t.lineView = s.lineView) : LineDiscipline t := by
  simp only [State.lineView, Prod.mk.injEq] at h
  obtain ⟨mode, own, tx, plan, opp, timer⟩ := h
  constructor
  case silent => rw [mode, tx]; exact hs.silent
  case ownOpportunity => rw [mode, own, tx, opp]; exact hs.ownOpportunity
  case planned => rw [mode, own, plan, opp]; exact hs.planned
  case muteTimer => rw [mode, timer]; exact hs.muteTimer

/-- With nothing on the line and no plan, the open timer of MUTE alone is left to show. -/
theorem of_quiet {t : State} (tx : t.line.tx = none) (plan : t.line.plan = none)
    (timer : t.mode = .mute → t.line.openTimer = .stopped) : LineDiscipline t where
  silent h := by simp [tx] at h
  ownOpportunity t h := by simp [tx] at h
  planned h := by simp [plan] at h
  muteTimer := timer

/-- Outside the states that may transmit there is no frame on the line. -/
theorem tx_none {s : State} (hs : LineDiscipline s) (h1 : s.mode ≠ .listening) (h2 : s.mode ≠ .active)
    (h3 : s.mode ≠ .resync) : s.line.tx = none := by
  have := hs.silent
  rw [Option.isSome_iff_ne_none] at this
  tauto

/-- Outside ACTIVE there is no plan. -/
theorem plan_none {s : State} (hs : LineDiscipline s) (h : s.mode ≠ .active) : s.line.plan = none := by
  have := hs.planned
  rw [Option.isSome_iff_ne_none] at this
  tauto

/-- A plan stands in the own opportunity alone. -/
theorem plan_none_of_opp {s : State} (hs : LineDiscipline s) (h : s.line.opp = .ended) : s.line.plan = none := by
  have := hs.planned
  rw [Option.isSome_iff_ne_none] at this
  simp only [h, reduceCtorEq, and_false] at this
  tauto

theorem ite {c : Prop} [Decidable c] {t u : State} (h : c → LineDiscipline t) (k : ¬c → LineDiscipline u) :
    LineDiscipline (if c then t else u) := by
  split
  next hc => exact h hc
  next hc => exact k hc

end LineDiscipline

/-! ### LULL entry and wake -/

/-- What the ten conditions give the line (R156). -/
theorem State.lullReady_line {s : State} (h : s.lullReady = true) :
    s.mode = .active ∧ s.line.opp = .ended ∧ s.line.wakePending = false ∧ s.line.tx = none := by
  simp only [State.lullReady, Bool.and_eq_true, beq_iff_eq, Bool.not_eq_true', Option.isNone_iff_eq_none] at h
  tauto

namespace LineDiscipline

theorem finishAt {s : State} (hs : LineDiscipline s) (b : Nat) : LineDiscipline (finishAt b s) := by
  cases h : s.lullReady with
  | false =>
    rw [finishAt_of_not_ready h]
    exact hs.congr rfl
  | true =>
    obtain ⟨_, hopp, _, htx⟩ := State.lullReady_line h
    rw [finishAt_of_ready h]
    exact of_quiet htx (hs.plan_none_of_opp hopp) (fun hm => by cases hm)

theorem finish {s : State} (hs : LineDiscipline s) : LineDiscipline (finish s) := hs.finishAt _

theorem finishAtTick {s : State} (hs : LineDiscipline s) : LineDiscipline (finishAtTick s) := hs.finishAt _

theorem wakeAfter {s : State} (hs : LineDiscipline s) (h : s.mode = .lull) (d : Nat) (atOpen : Bool) :
    LineDiscipline (wakeAfter d atOpen s) := by
  refine of_quiet ?_ ?_ (fun hm => by cases hm)
  · exact hs.tx_none (by rw [h]; decide) (by rw [h]; decide) (by rw [h]; decide)
  · exact hs.plan_none (by rw [h]; decide)

theorem wakeIfLull {s : State} (hs : LineDiscipline s) : LineDiscipline (wakeIfLull s) :=
  ite (fun h => (hs.congr rfl : LineDiscipline { s with freeCount := s.freeCount + 1 }).wakeAfter h.1 _ _)
    (fun _ => hs)

/-! ### Opportunities -/

theorem endOpportunity {s : State} (hs : LineDiscipline s) (htx : s.line.tx = none) (k : Nat) :
    LineDiscipline (endOpportunity k s) := by
  refine ite (fun _ => of_quiet ?_ rfl fun hm => ?_) (fun _ => of_quiet ?_ rfl fun hm => ?_)
  · simpa [beginOpportunity] using htx
  · have hmute : s.mode = .mute := by simpa using hm
    simpa [beginOpportunity] using hs.muteTimer hmute
  · simpa [endCycle] using htx
  · have hmute : s.mode = .mute := by simpa using hm
    simp [endCycle, hmute, Mode.opensCycle]

theorem endCurrent {s : State} (hs : LineDiscipline s) (htx : s.line.tx = none) : LineDiscipline (endCurrent s) := by
  unfold Machine.endCurrent
  split
  · exact hs.endOpportunity htx _
  · exact hs

theorem frameOver {s : State} (hs : LineDiscipline s) (htx : s.line.tx = none) (final : Bool) :
    LineDiscipline (frameOver final s) := ite (fun _ => hs.endCurrent htx) (fun _ => hs.congr rfl)

theorem cutOpportunity {s : State} (hs : LineDiscipline s) (k : Nat) : LineDiscipline (cutOpportunity k s) :=
  hs.congr (by simp [State.lineView, State.own])

/-! ### Frames received -/

/-- A MARK leaves the line idle with every own frame, plan and open timer gone (R95). -/
theorem handleMark (own : Bool) (src : Station) (m : MarkBody) (s : State) : LineDiscipline (handleMark own src m s) :=
  of_quiet (by rw [handleMark_line]; rfl) (by rw [handleMark_line]; rfl) (fun _ => by rw [handleMark_line]; rfl)

/-- The end of a taken frame starts no open timer in MUTE (R99). -/
theorem lineIdle_muteTimer {s : State} (hs : LineDiscipline s) (h : s.mode = .mute) :
    (lineIdle s).line.openTimer = .stopped := by
  simp [lineIdle, h, hs.muteTimer h]

theorem alignTo {s : State} (hs : LineDiscipline s) (htx : s.line.tx = none) (hplan : s.line.plan = none)
    (src : Station) (kind : FrameKind) : LineDiscipline (alignTo src kind s) := by
  refine ite (fun _ => of_quiet ?_ ?_ fun _ => rfl) (fun _ => hs)
  · simpa [moveCounter] using htx
  · simpa [moveCounter] using hplan

theorem takeFrame {s : State} (hs : LineDiscipline s) (htx : s.line.tx = none) (src : Station) (final : Bool)
    (b : Body) : LineDiscipline (takeFrame src final b s) := by
  refine ite (fun hwake => ?_) fun _ => ite (fun hlisten => ?_) fun _ => ?_
  · refine frameOver ?_ ?_ final
    · refine of_quiet ?_ ?_ (fun hm => ?_)
      · simpa [enterResync, resyncEntered] using htx
      · simp [enterResync, resyncEntered, abandonPlan]
      · simp [enterResync, resyncEntered] at hm
    · simpa [enterResync, resyncEntered] using htx
  · exact of_quiet htx rfl (fun hm => by simp [hlisten] at hm)
  · have hidle : LineDiscipline (abandonPlan (lineIdle (frameIn src b s))) :=
      of_quiet htx rfl fun hm =>
        (hs.congr rfl : LineDiscipline (frameIn src b s)).lineIdle_muteTimer (by simpa using hm)
    have haligned := hidle.alignTo htx rfl src b.kind
    have halignedTx : (Machine.alignTo src b.kind (abandonPlan (lineIdle (frameIn src b s)))).line.tx = none := by
      unfold Machine.alignTo
      split
      · simpa [moveCounter] using htx
      · exact htx
    exact frameOver (haligned.congr (by simp [State.lineView, State.own, resyncCycle]))
      (by simpa [resyncCycle] using halignedTx) final

end LineDiscipline
end Sys2Proof.Machine
end

section
/-! PROOFS. The discipline over the own frames, the restarts and every command (O59). -/

namespace Sys2Proof.Machine

/-- A panel command has a property where the state it is judged in has it, its body does, and answering keeps it. -/
theorem serve_keeps {P : State → Prop} {served : Bool} {count : Nat} {args : List Byte} {body s : State} (hs : P s)
    (hbody : P (noteTaken args body)) (hanswer : ∀ r, P (noteTaken args (respond r s))) :
    P (serve served count args body s) := by
  unfold serve
  repeat' split
  · exact hs
  · exact hanswer _
  · exact hanswer _
  · exact hbody

namespace LineDiscipline

theorem enterMute {s : State} (hs : LineDiscipline s) (htx : s.line.tx = none) (r : MuteReason) :
    LineDiscipline (enterMute r s) := ite (fun _ => hs) (fun _ => of_quiet htx rfl fun _ => rfl)

theorem rejectFrame {s : State} (hs : LineDiscipline s) (htx : s.line.tx = none) (r : RejectReason) (isCut : Bool)
    (h : Option Byte) : LineDiscipline (rejectFrame r isCut h s) := by
  have hnoted : LineDiscipline (if r = .own then foundDuplicate h (noteRejection r isCut h s)
      else noteRejection r isCut h s) := by
    have hnote := hs.congr (t := noteRejection r isCut h s) (by simp [State.lineView, State.own])
    refine ite (fun _ => enterMute ?_ ?_ _) (fun _ => hnote)
    · exact hnote.congr rfl
    · simpa using htx
  have hidle : LineDiscipline (lineIdle (if r = .own then foundDuplicate h (noteRejection r isCut h s)
      else noteRejection r isCut h s)) := {
    silent := hnoted.silent
    ownOpportunity := hnoted.ownOpportunity
    planned := hnoted.planned
    muteTimer := hnoted.lineIdle_muteTimer }
  exact hidle.congr rfl

/-- A station that runs its line and is not in MUTE may put its MARK on it (R93). -/
theorem sendMark {s : State} (hs : LineDiscipline s) (hawake : s.mode.awake = true) (hmute : s.mode ≠ .mute) :
    LineDiscipline (sendMark s) where
  silent _ := by
    show s.mode = _ ∨ _
    cases hm : s.mode <;> simp_all [Mode.awake]
  ownOpportunity t ht hk := by
    cases ht
    exact absurd rfl hk
  planned := hs.planned
  muteTimer hm := absurd hm hmute

theorem openExpired {s : State} (hs : LineDiscipline s) (hawake : s.mode.awake = true) (hmute : s.mode ≠ .mute) :
    LineDiscipline (openExpired s) := by
  have hbusy : ∀ o c, LineDiscipline { s with line := { s.line with openTimer := o, zeroCadence := c } } :=
    fun o c => ⟨hs.silent, hs.ownOpportunity, hs.planned, fun hm => absurd hm hmute⟩
  unfold Machine.openExpired
  split
  · exact hs.sendMark hawake hmute
  · exact hbusy _ _
  · exact hbusy _ _
  · exact hbusy _ _
  · exact hs

theorem quietWaitOver {s : State} (hs : LineDiscipline s) (hawake : s.mode.awake = true) (skipped : Bool) :
    LineDiscipline (quietWaitOver skipped s) := by
  refine ite (fun hheld => ?_) (fun _ => hs.congr rfl)
  have hmute : s.mode ≠ .mute := fun hm => by
    rw [hs.muteTimer hm] at hheld
    cases hheld
  refine ite (fun _ => ?_) (fun _ => ?_)
  · exact ⟨hs.silent, hs.ownOpportunity, hs.planned, fun hm => absurd hm hmute⟩
  · exact (hs.congr rfl : LineDiscipline { s with line := { s.line with rx := .idle } }).sendMark hawake hmute

/-! ### The own opportunity -/

theorem abandonPlan {s : State} (hs : LineDiscipline s) : LineDiscipline (abandonPlan s) :=
  ⟨hs.silent, hs.ownOpportunity, (fun h => by cases h), hs.muteTimer⟩

/-- A frame of a plan begins in the own opportunity alone (R101, R103). -/
theorem beginFrame {s : State} (hs : LineDiscipline s) (hown : s.mode = .active ∧ s.line.opp = .number s.own.val)
    (p : Plan) (b : Option Body) : LineDiscipline (beginFrame p b s) := by
  unfold Machine.beginFrame
  split
  · exact ⟨fun _ => .inr (.inl hown.1), fun _ _ _ => hown, fun _ => hown, hs.muteTimer⟩
  · exact hs.abandonPlan

theorem beginNext {s : State} (hs : LineDiscipline s) (hown : s.mode = .active ∧ s.line.opp = .number s.own.val)
    (p : Plan) : LineDiscipline (beginNext p s) :=
  ite (fun _ => hs.beginFrame hown p _) (fun _ => hs.abandonPlan)

/-- A plan that waits stands in the own opportunity. -/
theorem own_of_planWaiting {s : State} (hs : LineDiscipline s) {w : PlanWait} {p : Plan}
    (h : s.planWaiting w = some p) : s.mode = .active ∧ s.line.opp = .number s.own.val := by
  refine hs.planned ?_
  unfold State.planWaiting at h
  split at h
  next hp => rw [hp]; rfl
  next => cases h

/-- So does the plan of a frame on the line. -/
theorem own_of_sendingFrame {s : State} (hs : LineDiscipline s) {x : Body × Bool × Plan}
    (h : s.sendingFrame = some x) : s.mode = .active ∧ s.line.opp = .number s.own.val := by
  refine hs.planned ?_
  unfold State.sendingFrame at h
  split at h
  next hp => rw [hp]; rfl
  next => cases h

/-- With the line released in the own opportunity any plan may stand. -/
theorem of_released {t : State} (hown : t.mode = .active ∧ t.line.opp = .number t.own.val) (tx : t.line.tx = none) :
    LineDiscipline t where
  silent h := by simp [tx] at h
  ownOpportunity _ h := by simp [tx] at h
  planned _ := hown
  muteTimer h := by rw [hown.1] at h; cases h

theorem failAttempt {s : State} (hown : s.mode = .active ∧ s.line.opp = .number s.own.val) (b : Body) (p : Plan) :
    LineDiscipline (failAttempt b p s) := of_released hown rfl

theorem dropFrame {s : State} (hown : s.mode = .active ∧ s.line.opp = .number s.own.val) (b : Body) (p : Plan) :
    LineDiscipline (dropFrame b p (Machine.failAttempt b p s)) := of_released hown rfl

theorem frameOut {s : State} (hown : s.mode = .active ∧ s.line.opp = .number s.own.val) (b : Body) (p : Plan) :
    LineDiscipline (frameOut b p s) := of_released hown rfl

/-! ### Samples and ticks -/

theorem evaluateIf {s : State} (hs : LineDiscipline s) (b : Bool) : LineDiscipline (evaluateIf b s) :=
  ite (fun _ => hs.congr rfl) (fun _ => hs)

/-- A sighting that the detector makes touches the line at a wake alone (R72, R160). -/
theorem handMade {s : State} (hs : LineDiscipline s) (made : Option Sighting) : LineDiscipline (handMade made s) := by
  cases made with
  | none => exact hs
  | some g => exact congr (ite (fun h => hs.wakeAfter h.1 0 false) fun _ => hs) rfl

theorem takeSample {s : State} (hs : LineDiscipline s) (x : Sample) (v : Bool) :
    LineDiscipline (takeSample x v s) := by
  refine evaluateIf (handMade ?_ _) _
  exact hs.congr rfl

/-- A stopped open timer stays stopped over a tick. -/
theorem awakeTick {s : State} (hs : LineDiscipline s) : LineDiscipline (awakeTick s) :=
  ⟨hs.silent, hs.ownOpportunity, hs.planned, fun hm => by
    show s.line.openTimer.tick = .stopped
    rw [hs.muteTimer hm]
    rfl⟩

theorem lullTick {s : State} (hs : LineDiscipline s) : LineDiscipline (lullTick s) :=
  ⟨hs.silent, hs.ownOpportunity, hs.planned, fun hm => by
    show s.line.openTimer.lullTick _ = .stopped
    rw [hs.muteTimer hm]
    rfl⟩

/-! ### Restarts and loads -/

theorem enterListening (c : Loaded) (vane : BitVec 4) (dustReady : Bool) (s : State) :
    LineDiscipline (enterListening c vane dustReady s) := of_quiet rfl rfl fun _ => rfl

theorem coldRestart (b : Bool) (s : State) : LineDiscipline (coldRestart b s) := of_quiet rfl rfl fun _ => rfl

theorem coldStart (s : State) : LineDiscipline (coldStart s) := of_quiet rfl rfl fun _ => rfl

theorem warmRestart (vane : BitVec 4) (dustReady : Bool) (s : State) :
    LineDiscipline (warmRestart vane dustReady s) := by
  unfold Machine.warmRestart
  split
  · exact enterListening _ _ _ _
  · exact of_quiet rfl rfl fun _ => rfl

theorem endAttempt {s : State} (hs : LineDiscipline s) (hmode : s.mode = .loading) (straps : Station)
    (image : List Byte) (vane : BitVec 4) (dustReady : Bool) :
    LineDiscipline (endAttempt straps image vane dustReady s) := by
  have htx : s.line.tx = none := hs.tx_none (by rw [hmode]; decide) (by rw [hmode]; decide) (by rw [hmode]; decide)
  have hplan : s.line.plan = none := hs.plan_none (by rw [hmode]; decide)
  refine ite (fun _ => enterListening _ _ _ _) fun _ => ite (fun _ => ?_) fun _ => ?_
  · exact of_quiet htx hplan (fun hm => hs.muteTimer hm)
  · exact of_quiet htx hplan (fun hm => by cases hm)

end LineDiscipline

/-- Nothing is on the line while the receive path collects. -/
theorem State.tx_none_of_receives {s : State} (h : s.receives = true) : s.line.tx = none := by
  simp only [State.receives, Bool.and_eq_true, Option.isNone_iff_eq_none] at h
  exact h.1.2

/-- A command that keeps the mode, the loader and the line keeps the discipline; each other one keeps it by its own
lemma. -/
theorem LineDiscipline.exec {s t : State} (hs : LineDiscipline s) (c : Instr) (h : exec c s = .next t) :
    LineDiscipline t := by
  cases c with
  | powerOn =>
    obtain rfl := Host.Outcome.next.inj h
    exact .ite (fun _ => .coldRestart true s) fun _ => .coldStart s
  | resetAsserted =>
    obtain rfl := Host.Outcome.next.inj h
    exact .coldRestart true s
  | resetReleased =>
    obtain rfl := Host.Outcome.next.inj h
    exact .ite (fun _ => .coldStart s) fun _ => hs
  | loadAttemptEnd straps image vane dustReady =>
    obtain rfl := Host.Outcome.next.inj h
    split
    next hruns _ =>
      have hmode : s.mode = .loading := by simp [State.attemptRuns] at hruns; tauto
      exact (hs.congr rfl : LineDiscipline { s with straps := straps }).endAttempt hmode _ image vane dustReady
    next => exact hs
  | loadRetryDelayExpiry straps =>
    obtain rfl := Host.Outcome.next.inj h
    exact .ite (fun _ => ⟨hs.silent, hs.ownOpportunity, hs.planned, hs.muteTimer⟩) fun _ => hs
  | warmRestart vane dustReady =>
    obtain rfl := Host.Outcome.next.inj h
    exact .ite (fun _ => .warmRestart vane dustReady s) fun _ => hs
  | panelTransactionCut | panelUnknownCommand code args =>
    obtain rfl := Host.Outcome.next.inj h
    exact .ite (fun _ => hs) fun _ => hs.congr rfl
  | readStatus args | readException args | clearStatus args | clearException args | clearCounters args =>
    obtain rfl := Host.Outcome.next.inj h
    refine serve_keeps hs ?_ fun _ => hs.congr rfl
    exact hs.congr rfl
  | readFront args | readRoster args | readZone args | readTrace args | readCounters args | readConfig args =>
    obtain rfl := Host.Outcome.next.inj h
    refine serve_keeps hs ?_ fun _ => hs.congr rfl
    unfold answerRead
    split
    · exact hs.congr rfl
    · exact hs.congr rfl
  | armTrace args =>
    obtain rfl := Host.Outcome.next.inj h
    refine serve_keeps hs (LineDiscipline.congr (s := judgeArm args s) ?_ rfl) fun _ => hs.congr rfl
    exact .ite (fun _ => hs.congr rfl) fun _ => hs.congr rfl
  | acknowledgeZone args =>
    obtain rfl := Host.Outcome.next.inj h
    refine serve_keeps hs.wakeIfLull (LineDiscipline.congr (s := judgeAcknowledge (argAt args 0) (Machine.wakeIfLull s))
      ?_ rfl) fun _ => hs.wakeIfLull.congr rfl
    exact .ite (fun _ => ⟨hs.wakeIfLull.silent, hs.wakeIfLull.ownOpportunity, hs.wakeIfLull.planned,
      hs.wakeIfLull.muteTimer⟩) fun _ => hs.wakeIfLull.congr rfl
  | restart args =>
    obtain rfl := Host.Outcome.next.inj h
    refine serve_keeps hs.wakeIfLull ?_ fun _ => hs.wakeIfLull.congr rfl
    exact hs.wakeIfLull.congr rfl
  | anemometerEdge | vaneCodeChange | dustPulse | dustReadyLow | patternPeriodEnd =>
    obtain rfl := Host.Outcome.next.inj h
    exact .ite (fun _ => hs.congr rfl) fun _ => hs
  | perSecondEvaluation =>
    obtain rfl := Host.Outcome.next.inj h
    exact .ite (fun _ => hs.congr rfl) fun _ => hs
  | samplePeriodEnd dustReady =>
    obtain rfl := Host.Outcome.next.inj h
    refine .ite (fun _ => LineDiscipline.finishAtTick (LineDiscipline.takeSample ?_ _ _)) fun _ => hs
    exact hs.congr rfl
  | refractoryExpiry =>
    obtain rfl := Host.Outcome.next.inj h
    refine .ite (fun _ => LineDiscipline.finishAtTick ?_) fun _ => hs
    exact hs.congr rfl
  | listenTimerExpiry =>
    obtain rfl := Host.Outcome.next.inj h
    refine .ite (fun hlisten => ?_) fun _ => hs
    exact ⟨hs.silent, hs.ownOpportunity, hs.planned, fun hm => by cases hlisten.2.1.symm.trans hm⟩
  | openTimerExpiry =>
    obtain rfl := Host.Outcome.next.inj h
    refine .ite (fun hdue => hs.wakeAfter ?_ _ _) fun _ => .ite (fun hruns => ?_) fun _ => hs
    · simp [State.openDueInLull] at hdue
      tauto
    · simp only [State.openRuns, State.awake, Bool.and_eq_true, bne_iff_ne] at hruns
      exact hs.openExpired hruns.1.1.1.2 hruns.1.1.2
  | receiverQuietWaitEnd =>
    obtain rfl := Host.Outcome.next.inj h
    split
    next hawake _ =>
      simp only [State.awake, Bool.and_eq_true] at hawake
      exact hs.quietWaitOver hawake.2 _
    next => exact hs
  | silenceTimeout =>
    obtain rfl := Host.Outcome.next.inj h
    split
    next hrun _ =>
      simp only [Bool.and_eq_true, Option.isNone_iff_eq_none] at hrun
      exact ((hs.cutOpportunity _).endOpportunity (by simpa using hrun.2) _).finish
    next => exact hs
  | planFix =>
    obtain rfl := Host.Outcome.next.inj h
    refine .ite (fun hfix => LineDiscipline.beginNext ?_ ?_ _) fun _ => hs
    · exact hs.congr rfl
    · simp only [State.fixesPlan, Bool.and_eq_true, beq_iff_eq] at hfix
      exact ⟨hfix.1.1.1.1.2, hfix.1.1.1.2⟩
  | nextFrameStart =>
    obtain rfl := Host.Outcome.next.inj h
    split
    next hp => exact hs.beginNext (hs.own_of_planWaiting hp) _
    next => exact hs
  | frameRepeat =>
    obtain rfl := Host.Outcome.next.inj h
    split
    next hp => exact .ite (fun _ => hs.beginFrame (hs.own_of_planWaiting hp) _ _) fun _ => hs.abandonPlan
    next => exact hs
  | markReceived frame | presenceReceived frame | sightingReceived frame | transferReceived frame =>
    obtain rfl := Host.Outcome.next.inj h
    unfold receive
    split
    next hr _ =>
      refine .ite (fun _ => ?_) fun _ => hs
      split
      · exact .handleMark _ _ _ _
      · exact (hs.takeFrame (State.tx_none_of_receives hr) _ _ _).finish
    next => exact hs
  | frameRejected frame =>
    obtain rfl := Host.Outcome.next.inj h
    split
    next hr _ => exact hs.rejectFrame (State.tx_none_of_receives hr) _ _ _
    next => exact hs
  | echoFail =>
    obtain rfl := Host.Outcome.next.inj h
    split
    next hp =>
      have hown := hs.own_of_sendingFrame hp
      exact LineDiscipline.finish (.ite (fun _ => .failAttempt hown _ _) fun _ => .dropFrame hown _ _)
    next => exact hs
  | markCollision =>
    obtain rfl := Host.Outcome.next.inj h
    split
    next =>
      have hcollide : LineDiscipline (collide s) :=
        ⟨(fun h => by cases h), (fun _ h => by cases h), hs.planned, hs.muteTimer⟩
      exact LineDiscipline.finish (.ite (fun _ => hcollide.enterMute rfl _) fun _ => hcollide)
    next => exact hs
  | markSent =>
    obtain rfl := Host.Outcome.next.inj h
    split
    · exact .handleMark _ _ _ _
    · exact hs
  | frameSent =>
    obtain rfl := Host.Outcome.next.inj h
    split
    next b final p hp =>
      have hout := LineDiscipline.frameOut (hs.own_of_sendingFrame hp) b p
      refine LineDiscipline.finish (LineDiscipline.frameOver (s := takeOwn b p (Machine.frameOut b p s)) ?_
        (by simp) final)
      exact hout.congr (by simp [State.lineView, State.own])
    next => exact hs
  | sightingStepEnd =>
    obtain rfl := Host.Outcome.next.inj h
    split
    · split
      · refine LineDiscipline.finish ?_
        exact hs.congr (by simp [State.lineView, State.own])
      · exact hs
    · exact hs
  | closingStepEnd =>
    obtain rfl := Host.Outcome.next.inj h
    split
    · refine .ite (fun _ => LineDiscipline.finish ?_) fun _ => hs
      exact hs.congr (by simp [State.lineView, State.own])
    · exact hs
  | holdExpiry channel =>
    obtain rfl := Host.Outcome.next.inj h
    refine .ite (fun _ => LineDiscipline.finishAtTick ?_) fun _ => hs
    exact hs.congr rfl
  | calibrationWindowEnd count =>
    obtain rfl := Host.Outcome.next.inj h
    refine .ite (fun _ => LineDiscipline.finishAtTick ?_) fun _ => hs
    exact hs.congr rfl
  | wakeTimerExpiry =>
    obtain rfl := Host.Outcome.next.inj h
    refine .ite (fun hdue => hs.wakeAfter ?_ _ _) fun _ => hs
    simp [State.wakeDue] at hdue
    tauto
  | localTick =>
    obtain rfl := Host.Outcome.next.inj h
    exact .ite (fun _ => hs) fun _ => .ite (fun _ => hs.awakeTick) fun _ =>
      .ite (fun _ => hs.lullTick) fun _ => hs.congr rfl
  | frameStart =>
    obtain rfl := Host.Outcome.next.inj h
    split
    · exact hs.congr rfl
    · exact hs.congr rfl
    · exact hs

/-- Settles O59: the discipline does not read the queue, and every command keeps it (`LineDiscipline.exec`). -/
theorem everyStepKeepsTheLineDiscipline : Obligations.EveryStepKeepsTheLineDiscipline := fun _ _ hs h =>
  step_keeps (fun _ _ hq => hq.congr rfl) (fun c _ _ hb hc => hb.exec c hc) hs h

end Sys2Proof.Machine
end

section
/-! PROOFS. LULL is entered at the first moment (O54): a command that changes a condition ends in the test, and every other
one leaves the conditions or rules one of them out. Last, the values at reset (O60). -/

namespace Sys2Proof.Machine

/-- What the ten conditions read. -/
def State.lullView (s : State) : List Bool × Mode × Cadence × Opp × Option TxFrame × Bool × DetectorState :=
  ([s.resetHeld, s.profile.lullAllowed, s.line.wakePending, s.agree.staging.active, s.outbound.isEmpty, s.warn.allClear,
    s.time.lullGood], s.mode, s.line.cadence, s.line.opp, s.line.tx, s.fusionIdle, s.detector.state)

/-- What leaves them leaves the test as it was. -/
theorem lullReady_of_lullView {s t : State} (hs : s.lullReady = false) (h : t.lullView = s.lullView) :
    t.lullReady = false := by
  simp only [State.lullView, Prod.mk.injEq, List.cons.injEq] at h
  obtain ⟨⟨hreset, hallowed, hwake, hactive, hout, hclear, hgood, -⟩, hmode, hcad, hopp, htx, hidle, hdet⟩ := h
  rw [← hs]
  simp only [State.lullReady, hreset, hallowed, hwake, hactive, hout, hclear, hgood, hmode, hcad, hopp, htx, hidle, hdet]

theorem lullReady_of_wakePending {s : State} (h : s.line.wakePending = true) : s.lullReady = false := by
  simp [State.lullReady, h]

theorem lullReady_of_tx {s : State} (h : s.line.tx.isSome = true) : s.lullReady = false := by
  cases htx : s.line.tx with
  | none => rw [htx] at h; cases h
  | some t => simp [State.lullReady, htx]

theorem lullReady_of_not_allClear {s : State} (h : s.warn.allClear = false) : s.lullReady = false := by
  simp [State.lullReady, h]

/-- Either branch of a choice. -/
theorem lullReady_ite {c : Prop} [Decidable c] {s t : State} (h : c → s.lullReady = false)
    (k : ¬c → t.lullReady = false) : (if c then s else t).lullReady = false := by
  split
  next hc => exact h hc
  next hc => exact k hc

/-! ### Operations that rule LULL out -/

theorem wakeAfter_lullReady (d : Nat) (atOpen : Bool) (s : State) : (wakeAfter d atOpen s).lullReady = false :=
  lullReady_of_wakePending rfl

theorem wakeIfLull_lullReady {s : State} (hs : s.lullReady = false) : (wakeIfLull s).lullReady = false :=
  lullReady_ite (fun _ => wakeAfter_lullReady _ _ _) (fun _ => hs)

/-- A MARK begins opportunity 0 (R95). -/
theorem handleMark_lullReady (own : Bool) (src : Station) (m : MarkBody) (s : State) :
    (handleMark own src m s).lullReady = false :=
  lullReady_of_opp (by rw [handleMark_line]; exact Opp.noConfusion)

theorem sendMark_lullReady (s : State) : (sendMark s).lullReady = false := lullReady_of_tx rfl

theorem openExpired_lullReady {s : State} (hs : s.lullReady = false) : (openExpired s).lullReady = false := by
  unfold openExpired
  split
  · exact sendMark_lullReady s
  · exact lullReady_of_lullView hs rfl
  · exact lullReady_of_lullView hs rfl
  · exact lullReady_of_lullView hs rfl
  · exact hs

theorem quietWaitOver_lullReady {s : State} (hs : s.lullReady = false) (skipped : Bool) :
    (quietWaitOver skipped s).lullReady = false :=
  lullReady_ite
    (fun _ => lullReady_ite (fun _ => lullReady_of_lullView hs rfl) (fun _ => sendMark_lullReady _))
    (fun _ => lullReady_of_lullView hs rfl)

theorem abandonPlan_lullReady {s : State} (hs : s.lullReady = false) : (abandonPlan s).lullReady = false :=
  lullReady_of_lullView hs rfl

theorem beginFrame_lullReady {s : State} (hs : s.lullReady = false) (p : Plan) (b : Option Body) :
    (beginFrame p b s).lullReady = false := by
  cases b with
  | none => exact abandonPlan_lullReady hs
  | some b => exact lullReady_of_tx rfl

theorem beginNext_lullReady {s : State} (hs : s.lullReady = false) (p : Plan) : (beginNext p s).lullReady = false :=
  lullReady_ite (fun _ => beginFrame_lullReady hs _ _) (fun _ => abandonPlan_lullReady hs)

/-- A rejected frame that carries the own number leaves the station in MUTE; any other leaves the conditions. -/
theorem rejectFrame_lullReady {s : State} (hs : s.lullReady = false) (r : RejectReason) (isCut : Bool)
    (h : Option Byte) : (rejectFrame r isCut h s).lullReady = false := by
  have hnote : (noteRejection r isCut h s).lullReady = false :=
    lullReady_ite (fun _ => hs) (fun _ => lullReady_of_lullView hs rfl)
  have hmute : ∀ u : State, (foundDuplicate h u).lullReady = false := fun u =>
    lullReady_ite (fun hm => lullReady_of_mode (by rw [hm]; decide)) (fun _ => lullReady_of_mode Mode.noConfusion)
  exact lullReady_of_lullView (s := if r = .own then foundDuplicate h (noteRejection r isCut h s)
    else noteRejection r isCut h s) (lullReady_ite (fun _ => hmute _) (fun _ => hnote)) rfl

/-! ### Zones -/

/-- An evaluation brings no zone to CLEAR (R170). -/
theorem applyLevel_ne_clear {z : Zone} (h : z.level ≠ .clear) (holdT : Nat) (c : Level × Source) :
    (applyLevel holdT c z).level ≠ .clear := by
  unfold applyLevel
  split
  next hlt =>
    intro hc
    simp only at hc
    simp [hc, Level.rank] at hlt
  next => split <;> exact h

/-- So an evaluation leaves some owned zone above CLEAR where one was. -/
theorem evaluate_not_allClear {s : State} (h : s.warn.anyWarning = true) : (evaluate s).warn.allClear = false := by
  obtain ⟨z, hz, hlevel⟩ := List.any_eq_true.1 h
  refine List.all_eq_false.2 ⟨applyLevel s.profile.holdT (s.computed z.zone) z, ?_, ?_⟩
  · rw [evaluate_zones]
    exact List.mem_map_of_mem hz
  · simpa using applyLevel_ne_clear (bne_iff_ne.1 hlevel) _ _

/-- A change of one element that a test does not see. -/
theorem all_modify {α : Type} {p : α → Bool} {f : α → α} (h : ∀ a, p (f a) = p a) (l : List α) (k : Nat) :
    (l.modify k f).all p = l.all p := by
  induction l generalizing k with
  | nil => cases k <;> rfl
  | cons a l ih => cases k <;> simp [h, ih]

/-- An acknowledgement keeps every level (R172). -/
theorem acknowledge_allClear (k : Nat) (s : State) : (acknowledge k s).warn.allClear = s.warn.allClear :=
  all_modify (p := fun z : Zone => z.level == .clear) (f := fun z => { z with ack := true }) (fun _ => rfl) _ _

/-- A tick keeps every level. -/
theorem tickTimers_allClear (s : State) : (tickTimers s).warn.allClear = s.warn.allClear := by
  simp only [tickTimers, Warn.allClear, List.all_map]
  rfl

/-! ### Restarts, loads and ticks -/

theorem warmRestart_lullReady (vane : BitVec 4) (dustReady : Bool) (s : State) :
    (warmRestart vane dustReady s).lullReady = false := by
  unfold warmRestart
  split
  · exact lullReady_of_mode Mode.noConfusion
  · exact lullReady_of_mode Mode.noConfusion

theorem endAttempt_lullReady {s : State} (h : s.mode = .loading) (straps : Station) (image : List Byte) (vane : BitVec 4)
    (dustReady : Bool) : (endAttempt straps image vane dustReady s).lullReady = false := by
  refine lullReady_ite (fun _ => lullReady_of_mode Mode.noConfusion) fun _ => lullReady_ite (fun _ => ?_) fun _ => ?_
  · exact lullReady_of_mode (by simp [loadFails, h])
  · exact lullReady_of_mode Mode.noConfusion

theorem awakeTick_lullReady {s : State} (hs : s.lullReady = false) : (awakeTick s).lullReady = false := by
  refine lullReady_of_lullView hs ?_
  simp only [State.lullView, awakeTick, tickTimers_allClear]
  rfl

theorem lullTick_lullReady {s : State} (h : s.mode = .lull) : (lullTick s).lullReady = false :=
  lullReady_of_mode (by simp [h])

/-- A panel command that changes none of the conditions. -/
theorem serve_lullReady {served : Bool} {count : Nat} {args : List Byte} {body s : State} (hs : s.lullReady = false)
    (hbody : body.lullReady = false) : (serve served count args body s).lullReady = false :=
  serve_keeps (P := fun u => u.lullReady = false) hs (lullReady_of_lullView hbody rfl) fun _ =>
    lullReady_of_lullView hs rfl

/-- Every command leaves the test failing where it failed. -/
theorem exec_lullReady {s t : State} (hs : s.lullReady = false) (c : Instr) (h : exec c s = .next t) :
    t.lullReady = false := by
  cases c with
  | powerOn =>
    obtain rfl := Host.Outcome.next.inj h
    exact lullReady_ite (fun _ => lullReady_of_mode Mode.noConfusion) fun _ => lullReady_of_mode Mode.noConfusion
  | resetAsserted =>
    obtain rfl := Host.Outcome.next.inj h
    exact lullReady_of_mode Mode.noConfusion
  | resetReleased =>
    obtain rfl := Host.Outcome.next.inj h
    exact lullReady_ite (fun _ => lullReady_of_mode Mode.noConfusion) fun _ => hs
  | loadAttemptEnd straps image vane dustReady =>
    obtain rfl := Host.Outcome.next.inj h
    split
    next hruns _ =>
      have hmode : s.mode = .loading := by simp [State.attemptRuns] at hruns; tauto
      exact endAttempt_lullReady (s := { s with straps := straps }) hmode _ _ _ _
    next => exact hs
  | loadRetryDelayExpiry straps =>
    obtain rfl := Host.Outcome.next.inj h
    exact lullReady_ite (fun hload => lullReady_of_mode (by simp [hload.1])) fun _ => hs
  | warmRestart vane dustReady =>
    obtain rfl := Host.Outcome.next.inj h
    exact lullReady_ite (fun _ => warmRestart_lullReady _ _ s) fun _ => hs
  | panelTransactionCut | panelUnknownCommand code args | anemometerEdge offset | vaneCodeChange code | dustPulse
  | dustReadyLow | patternPeriodEnd channel =>
    obtain rfl := Host.Outcome.next.inj h
    refine lullReady_ite (fun _ => ?_) fun _ => ?_
    all_goals exact lullReady_of_lullView hs rfl
  | readStatus args | readException args | clearStatus args | clearException args | clearCounters args =>
    obtain rfl := Host.Outcome.next.inj h
    exact serve_lullReady hs (lullReady_of_lullView hs rfl)
  | readFront args | readRoster args | readZone args | readTrace args | readCounters args | readConfig args =>
    obtain rfl := Host.Outcome.next.inj h
    refine serve_lullReady hs ?_
    unfold answerRead
    split
    all_goals exact lullReady_of_lullView hs rfl
  | armTrace args =>
    obtain rfl := Host.Outcome.next.inj h
    refine serve_lullReady hs (lullReady_ite (fun _ => ?_) fun _ => ?_)
    all_goals exact lullReady_of_lullView hs rfl
  | acknowledgeZone args =>
    obtain rfl := Host.Outcome.next.inj h
    have hwoken := wakeIfLull_lullReady hs
    refine serve_lullReady hwoken (lullReady_ite (fun _ => ?_) fun _ => lullReady_of_lullView hwoken rfl)
    refine lullReady_of_lullView (s := acknowledge (argAt args 0) (wakeIfLull s)) (lullReady_of_lullView hwoken ?_) rfl
    simp only [State.lullView, acknowledge_allClear]
    rfl
  | restart args =>
    obtain rfl := Host.Outcome.next.inj h
    have hwoken := wakeIfLull_lullReady hs
    exact serve_lullReady hwoken (lullReady_of_lullView hwoken rfl)
  | samplePeriodEnd dustReady | refractoryExpiry | holdExpiry channel | calibrationWindowEnd count =>
    obtain rfl := Host.Outcome.next.inj h
    exact lullReady_ite (fun _ => finishAtTick_lullReady _) fun _ => hs
  | listenTimerExpiry =>
    obtain rfl := Host.Outcome.next.inj h
    exact lullReady_ite (fun _ => lullReady_of_lullView hs rfl) fun _ => hs
  | openTimerExpiry =>
    obtain rfl := Host.Outcome.next.inj h
    exact lullReady_ite (fun _ => wakeAfter_lullReady _ _ _) fun _ =>
      lullReady_ite (fun _ => openExpired_lullReady hs) fun _ => hs
  | receiverQuietWaitEnd =>
    obtain rfl := Host.Outcome.next.inj h
    split
    · exact quietWaitOver_lullReady hs _
    · exact hs
  | silenceTimeout | echoFail | markCollision | frameSent =>
    obtain rfl := Host.Outcome.next.inj h
    split
    · exact finish_lullReady _
    · exact hs
  | planFix =>
    obtain rfl := Host.Outcome.next.inj h
    refine lullReady_ite (fun _ => beginNext_lullReady ?_ _) fun _ => hs
    exact lullReady_of_lullView hs rfl
  | nextFrameStart =>
    obtain rfl := Host.Outcome.next.inj h
    split
    · exact beginNext_lullReady hs _
    · exact hs
  | frameRepeat =>
    obtain rfl := Host.Outcome.next.inj h
    split
    · exact lullReady_ite (fun _ => beginFrame_lullReady hs _ _) fun _ => abandonPlan_lullReady hs
    · exact hs
  | markReceived frame | presenceReceived frame | sightingReceived frame | transferReceived frame =>
    obtain rfl := Host.Outcome.next.inj h
    unfold receive
    split
    · refine lullReady_ite (fun _ => ?_) fun _ => hs
      split
      · exact handleMark_lullReady _ _ _ _
      · exact finish_lullReady _
    · exact hs
  | frameRejected frame =>
    obtain rfl := Host.Outcome.next.inj h
    split
    · exact rejectFrame_lullReady hs _ _ _
    · exact hs
  | markSent =>
    obtain rfl := Host.Outcome.next.inj h
    split
    · exact handleMark_lullReady _ _ _ _
    · exact hs
  | sightingStepEnd =>
    obtain rfl := Host.Outcome.next.inj h
    split
    · split
      · exact finish_lullReady _
      · exact hs
    · exact hs
  | closingStepEnd =>
    obtain rfl := Host.Outcome.next.inj h
    split
    · exact lullReady_ite (fun _ => finish_lullReady _) fun _ => hs
    · exact hs
  | perSecondEvaluation =>
    obtain rfl := Host.Outcome.next.inj h
    exact lullReady_ite (fun hdue => lullReady_of_not_allClear (evaluate_not_allClear hdue.2.2)) fun _ => hs
  | wakeTimerExpiry =>
    obtain rfl := Host.Outcome.next.inj h
    exact lullReady_ite (fun _ => wakeAfter_lullReady _ _ _) fun _ => hs
  | localTick =>
    obtain rfl := Host.Outcome.next.inj h
    refine lullReady_ite (fun _ => hs) fun _ => lullReady_ite (fun _ => awakeTick_lullReady hs) fun _ =>
      lullReady_ite lullTick_lullReady fun _ => ?_
    exact lullReady_of_lullView hs rfl
  | frameStart =>
    obtain rfl := Host.Outcome.next.inj h
    split
    all_goals exact lullReady_of_lullView hs rfl

/-- Settles O54: the test does not read the queue, and no command makes it pass (`exec_lullReady`). -/
theorem lullIsEnteredAtTheFirstMoment : Obligations.LullIsEnteredAtTheFirstMoment := fun _ _ hs h =>
  step_keeps (P := fun u => u.lullReady = false) (fun _ _ hq => lullReady_of_lullView hq rfl)
    (fun c _ _ hb hc => exec_lullReady hb c hc) hs h

/-- Settles O60: the reset state is the cold restart of itself, which meets both invariants, and it is in LOADING. -/
theorem invariantsHoldAtReset : Obligations.InvariantsHoldAtReset :=
  ⟨.coldRestart false State.reset, .coldRestart false State.reset, lullReady_of_mode Mode.noConfusion⟩

end Sys2Proof.Machine
end

section
/-! PROOFS. Every command answers and leaves the queue (O1); the cold restart (O2). -/

namespace Sys2Proof.Machine

/-! ### The queue -/

theorem serve_pending {served : Bool} {count : Nat} {args : List Byte} {body s : State} (h : body.pending = s.pending) :
    (serve served count args body s).pending = s.pending :=
  serve_keeps (P := fun u => u.pending = s.pending) rfl h fun _ => rfl

theorem answerRead_pending (data : Option (List Byte)) (s : State) : (answerRead data s).pending = s.pending := by
  cases data <;> rfl

theorem receive_pending (kind : FrameKind) (frame : List RxChar) (s : State) :
    (receive kind frame s).pending = s.pending := by
  unfold receive
  split
  · split
    · split <;> simp
    · rfl
  · rfl

theorem warmRestart_pending (vane : BitVec 4) (dustReady : Bool) (s : State) :
    (warmRestart vane dustReady s).pending = s.pending := by
  unfold warmRestart
  split <;> rfl

theorem endAttempt_pending (straps : Station) (image : List Byte) (vane : BitVec 4) (dustReady : Bool) (s : State) :
    (endAttempt straps image vane dustReady s).pending = s.pending := by
  unfold endAttempt
  repeat' split
  all_goals rfl

/-- No command touches the queue (log 1). -/
theorem exec_pending {c : Instr} {s t : State} (h : exec c s = .next t) : t.pending = s.pending := by
  cases c with
  | resetAsserted =>
    obtain rfl := Host.Outcome.next.inj h
    rfl
  | powerOn | resetReleased | loadRetryDelayExpiry straps | panelTransactionCut | panelUnknownCommand code args
  | anemometerEdge offset | vaneCodeChange code | dustPulse | dustReadyLow | samplePeriodEnd dustReady
  | refractoryExpiry | listenTimerExpiry | planFix | perSecondEvaluation | holdExpiry channel
  | patternPeriodEnd channel | calibrationWindowEnd count | wakeTimerExpiry =>
    obtain rfl := Host.Outcome.next.inj h
    split <;> simp [coldStart, coldRestart]
  | warmRestart vane dustReady =>
    obtain rfl := Host.Outcome.next.inj h
    split
    · exact warmRestart_pending _ _ s
    · rfl
  | loadAttemptEnd straps image vane dustReady =>
    obtain rfl := Host.Outcome.next.inj h
    split
    · exact endAttempt_pending _ _ _ _ _
    · rfl
  | readStatus args | readException args | clearStatus args | clearException args | clearCounters args =>
    obtain rfl := Host.Outcome.next.inj h
    exact serve_pending rfl
  | readFront args | readRoster args | readZone args | readTrace args | readCounters args | readConfig args =>
    obtain rfl := Host.Outcome.next.inj h
    exact serve_pending (answerRead_pending _ s)
  | armTrace args =>
    obtain rfl := Host.Outcome.next.inj h
    refine serve_pending ?_
    unfold judgeArm
    split <;> rfl
  | acknowledgeZone args =>
    obtain rfl := Host.Outcome.next.inj h
    refine (serve_pending ?_).trans (wakeIfLull_pending s)
    unfold judgeAcknowledge
    split <;> rfl
  | restart args =>
    obtain rfl := Host.Outcome.next.inj h
    refine (serve_pending ?_).trans (wakeIfLull_pending s)
    rfl
  | openTimerExpiry =>
    obtain rfl := Host.Outcome.next.inj h
    repeat' split
    all_goals simp
  | receiverQuietWaitEnd | silenceTimeout | nextFrameStart | frameRejected frame | markSent | frameSent | frameStart =>
    obtain rfl := Host.Outcome.next.inj h
    split <;> simp
  | frameRepeat | echoFail | markCollision | sightingStepEnd | closingStepEnd =>
    obtain rfl := Host.Outcome.next.inj h
    repeat' split
    all_goals simp
  | markReceived frame | presenceReceived frame | sightingReceived frame | transferReceived frame =>
    obtain rfl := Host.Outcome.next.inj h
    exact receive_pending _ frame s
  | localTick =>
    obtain rfl := Host.Outcome.next.inj h
    repeat' split
    all_goals simp

/-- Every command has a meaning, and none stops the block. -/
theorem exec_answers (c : Instr) (s : State) : ∃ t, exec c s = .next t := by
  cases c <;> exact ⟨_, rfl⟩

/-- Settles O1. -/
theorem stepRunsTheFrontCommand : Obligations.StepRunsTheFrontCommand := by
  refine ⟨⟨fun c s => rfl, fun s h => ?_⟩, fun c s => ?_⟩
  · simp only [step, h]
  · obtain ⟨t, ht⟩ := exec_answers c s
    exact ⟨t, ht, exec_pending ht⟩

/-! ### The cold restart -/

theorem runs_of_resetHeld {s : State} (h : s.resetHeld = true) : s.runs = false := by simp [State.runs, h]

theorem attemptRuns_of_resetHeld {s : State} (h : s.resetHeld = true) : s.attemptRuns = false := by
  simp [State.attemptRuns, h]

/-- While RESET is held every output line is released (R208). -/
theorem outputs_released {s : State} (h : s.resetHeld = true) :
    (∀ k, s.lampLine k = .released ∧ s.sirenLine k = .released) ∧ s.attnLine = .released ∧ s.txen = .released
      ∧ (∀ i, s.txd i = some .released ∧ s.cdo i = some .released) ∧ s.cselLine = .released
      ∧ s.cck = some .released ∧ ∀ selLow taken pos, s.sdo selLow taken pos = none := by
  simp [State.lampLine, State.sirenLine, State.drivesOutputs, runs_of_resetHeld h, State.attnLine, State.txen, State.txd,
    State.cdo, State.cselLine, attemptRuns_of_resetHeld h, State.cck, State.sdo, h]

theorem execPowerOn_of_released {s : State} (h : s.resetHeld = false) : execPowerOn s = .next (coldStart s) := by
  simp [execPowerOn, h]

theorem execPowerOn_of_held {s : State} (h : s.resetHeld = true) : execPowerOn s = .next (coldRestart true s) := by
  simp [execPowerOn, h]

theorem execResetReleased_of_released {s : State} (h : s.resetHeld = false) : execResetReleased s = .next s := by
  simp [execResetReleased, h]

theorem execResetReleased_of_held {s : State} (h : s.resetHeld = true) : execResetReleased s = .next (coldStart s) := by
  simp [execResetReleased, h]

/-- Settles O2: each restart command by the level of RESET, and the cold values read off `State.reset`. -/
theorem coldRestartGivesTheColdValues : Obligations.ColdRestartGivesTheColdValues := by
  refine ⟨⟨fun s => ⟨fun h => ?_, fun h => ⟨?_, ?_⟩, rfl, fun h => ?_⟩, fun s h => outputs_released h⟩, ?_⟩
  · exact execPowerOn_of_released h
  · exact execPowerOn_of_held h
  · exact execResetReleased_of_held h
  · exact execResetReleased_of_released h
  · decide

end Sys2Proof.Machine
end

section
/-! PROOFS. The load of a configuration (O3) and the warm restart (O4). -/

namespace Sys2Proof.Machine

/-! ### Attempts -/

theorem attemptRuns_of {s : State} (h0 : s.resetHeld = false) (h1 : s.mode = .loading)
    (h2 : s.loader.phase = .attempt) : s.attemptRuns = true := by simp [State.attemptRuns, h0, h1, h2]

/-- The request of an attempt, 03h and the address 0000h, bit by bit (R203). -/
theorem readRequest_bits : ∀ i < 24, ((readRequest.flatMap bitsMsbFirst)[i]?).map PinLevel.drive
    = some (if i = 6 ∨ i = 7 then .high else .low) := by decide

/-- While an attempt runs the memory is selected and is sent the request (R203). -/
theorem attempt_outputs {s : State} (h0 : s.resetHeld = false) (h : s.attemptRuns = true) :
    s.cselLine = .low ∧ ∀ i : Nat, i < 24 → s.cdo i = some (if i = 6 ∨ i = 7 then .high else .low) := by
  refine ⟨by simp [State.cselLine, h], fun i hi => ?_⟩
  simp only [State.cdo, h0, h, Bool.false_eq_true, if_false, if_true]
  exact readRequest_bits i hi

/-- The end of an attempt judges the image by the number read as the attempt started (R204, log 48). -/
theorem execLoadAttemptEnd_of_attempt {s : State} {n : Station} (h : s.attemptRuns = true) (hn : s.loader.strap = some n)
    (pins : Station) (image : List Byte) (vane : BitVec 4) (ready : Bool) :
    execLoadAttemptEnd pins image vane ready s = .next (endAttempt n image vane ready { s with straps := pins }) := by
  simp only [execLoadAttemptEnd, h, hn]

theorem endAttempt_of_passed {n : Station} {image : List Byte} (h : judgeImage n image = .none) (vane : BitVec 4)
    (ready : Bool) (s : State) : endAttempt n image vane ready s = loadSucceeds n image vane ready s := if_pos h

theorem endAttempt_of_retried {n : Station} {image : List Byte} {s : State} (h : judgeImage n image ≠ .none)
    (hk : s.loader.attempts < 3) (vane : BitVec 4) (ready : Bool) :
    endAttempt n image vane ready s = loadFails (judgeImage n image) n s := (if_neg h).trans (if_pos hk)

theorem endAttempt_of_third {n : Station} {image : List Byte} {s : State} (h : judgeImage n image ≠ .none)
    (hk : 3 ≤ s.loader.attempts) (vane : BitVec 4) (ready : Bool) :
    endAttempt n image vane ready s = enterConfigFault (judgeImage n image) n s :=
  (if_neg h).trans (if_neg (Nat.not_lt.2 hk))

/-! ### The generators on entering LISTENING (R179) -/

/-- Every zone stands CLEAR and DEGRADED after restart, so its wanted pattern is FAULT. -/
theorem wantedAt_zonesOf (e : StationEntry) (k : Nat) :
    wantedAt (zonesOf e) k = if k < (zonesOf e).length then .fault else .off := by
  unfold wantedAt
  by_cases hk : k < (zonesOf e).length
  · rw [List.getElem?_eq_getElem hk, if_pos hk]
    simp [zonesOf, Zone.wanted]
  · rw [List.getElem?_eq_none (Nat.not_lt.1 hk), if_neg hk]

/-- A channel with a zone shows FAULT at once, any other stays stopped. -/
theorem listening_gens (e : StationEntry) {k : Nat} (hk : k < 4) :
    (Warn.restarted (zonesOf e)).listening.gens[k]?
      = some (if k < (zonesOf e).length then ⟨true, 0, .fault, .fault, .fault⟩ else ⟨false, 0, .off, .off, .off⟩) := by
  have hstopped : (List.replicate 4 Gen.stopped)[k]? = some Gen.stopped := by
    rw [List.getElem?_replicate, if_pos hk]
  simp only [Warn.listening, Warn.restarted, refreshGens, List.getElem?_mapIdx, hstopped, Option.map_some,
    wantedAt_zonesOf]
  split <;> rfl

/-- Settles O3: the outputs of an attempt, its end by the judgement and the attempt count, and the retry. -/
theorem loadAttemptsAreJudgedAndRetried : Obligations.LoadAttemptsAreJudgedAndRetried := by
  refine ⟨fun s h0 h1 h2 => attempt_outputs h0 (attemptRuns_of h0 h1 h2),
    fun s n pins k image vane ready h0 h1 h2 hn hk => ?_, fun s pins h0 h1 h2 => ?_⟩
  · subst hk
    have hend := execLoadAttemptEnd_of_attempt (attemptRuns_of h0 h1 h2) hn pins image vane ready
    refine ⟨fun hpass => ⟨loadSucceeds n image vane ready { s with straps := pins }, ?_, rfl, rfl, rfl, rfl, rfl, rfl, rfl,
        rfl, rfl, rfl, ?_, fun j hj => ?_, rfl, rfl, rfl, rfl⟩, fun hfail hlt => ?_, fun hfail hle => ?_⟩
    · exact hend.trans (congrArg _ (endAttempt_of_passed hpass _ _ _))
    · exact (refreshGens_length _ _).trans List.length_replicate
    · exact listening_gens _ hj
    · exact hend.trans (congrArg _ (endAttempt_of_retried (s := { s with straps := pins }) hfail hlt _ _))
    · exact hend.trans (congrArg _ (endAttempt_of_third (s := { s with straps := pins }) hfail hle _ _))
  · exact congrArg _ (if_pos ⟨h1, h2, h0⟩)

/-! ### The warm restart -/

theorem execWarmRestart_of_taken {s : State} (h0 : s.resetHeld = false) (h : s.panel.restartTaken = true)
    (vane : BitVec 4) (ready : Bool) : execWarmRestart vane ready s = .next (warmRestart vane ready s) := by
  simp [execWarmRestart, h0, h]

theorem warmRestart_of_loaded {s : State} {c : Loaded} (h : s.loader.loaded = some c) (vane : BitVec 4) (ready : Bool) :
    warmRestart vane ready s = enterListening c vane ready (warmValues s) := by
  simp only [warmRestart, h]

theorem warmRestart_of_unloaded {s : State} (h : s.loader.loaded = none) (vane : BitVec 4) (ready : Bool) :
    warmRestart vane ready s
      = { restartBlocks none (warmValues s) with mode := .loading, loader := s.loader.reload s.straps } := by
  simp only [warmRestart, h]

/-- A frozen ring is kept as it is (R188). -/
theorem restartTrace_of_frozen {s : State} (h : s.trace.frozen = true) : s.restartTrace = s.trace := by
  cases ht : s.trace
  simp_all [State.restartTrace]

/-- Any other takes the RESTART entry and freezes with it (R188). -/
theorem restartTrace_of_running {s : State} (h : s.trace.frozen = false) : s.restartTrace = {
    ring := pushEntry s.trace.ring s.restartEntry
    frozen := true, reason := some .restart, settings := s.trace.settings } := by
  simp [State.restartTrace, h]

/-- Settles O4, by whether a configuration is in force: the clock, the trace, the counters and the panel are those of
`warmValues` in both cases, and every other block stands at its values after restart. -/
theorem warmRestartKeepsClockTraceAndConfiguration : Obligations.WarmRestartKeepsClockTraceAndConfiguration := by
  intro s vane ready h0 htaken
  refine ⟨_, execWarmRestart_of_taken h0 htaken vane ready, ?_⟩
  cases hc : s.loader.loaded with
  | some c =>
    rw [warmRestart_of_loaded hc]
    refine ⟨rfl, rfl, rfl, restartTrace_of_frozen, restartTrace_of_running, rfl, rfl, rfl, rfl, rfl, rfl, rfl, rfl, ?_,
      rfl, fun c' hc' => ?_, (fun h => by cases h), rfl, rfl, rfl, rfl⟩
    · exact (refreshGens_length _ _).trans List.length_replicate
    · cases hc'
      exact ⟨rfl, rfl, rfl, rfl, rfl, rfl, fun k hk => listening_gens c.entry hk⟩
  | none =>
    rw [warmRestart_of_unloaded hc]
    refine ⟨rfl, rfl, rfl, restartTrace_of_frozen, restartTrace_of_running, rfl, rfl, rfl, rfl, rfl, rfl, rfl, rfl, rfl,
      rfl, (fun c' hc' => by cases hc'), fun _ => ⟨rfl, rfl, rfl, rfl, rfl, rfl, fun g hg => ?_⟩, rfl, rfl, rfl, rfl⟩
    exact List.eq_of_mem_replicate hg

end Sys2Proof.Machine
end

section
/-! PROOFS. The panel commands (O5 to O8): what a transaction spells, how a command is judged, its answer and effect. -/

namespace Sys2Proof.Machine

/-! ### Transactions -/

/-- A code that the table of R195 does not name is unknown. -/
theorem panelCommand_of_unknown {code : Byte} (args : List Byte)
    (h : code ∉ ([0x10, 0x11, 0x20, 0x21, 0x22, 0x23, 0x30, 0x31, 0x40, 0x41, 0x50, 0x51, 0x60, 0x7E] : List Byte)) :
    panelCommand code args = .panelUnknownCommand code args := by
  unfold panelCommand
  split
  case h_15 => rfl
  all_goals
    next hcode =>
      simp [← BitVec.toNat_inj, hcode] at h

/-- A count of at most 255 is read back from its byte. -/
theorem byteOf_toNat {n : Nat} (h : n ≤ 255) : (byteOf n).toNat = n := by
  simp only [byteOf, BitVec.toNat_ofNat]
  omega

/-- A transaction with all its argument bytes spells its command (R193). -/
theorem panelTransaction_of_whole (code : Byte) {args : List Byte} (h : args.length ≤ 255) :
    panelTransaction (code :: byteOf args.length :: args) = panelCommand code args := by
  simp [panelTransaction, byteOf_toNat h]

/-- One with fewer is cut (R193). -/
theorem panelTransaction_of_cut (code : Byte) {count : Byte} {args : List Byte} (h : args.length < count.toNat) :
    panelTransaction (code :: count :: args) = .panelTransactionCut := if_neg (Nat.not_le.2 h)

/-- SDO at each byte of a transaction (R193, log 44). -/
theorem sdo_values {s : State} (h0 : s.resetHeld = false) :
    (∀ taken pos, s.sdo false taken pos = none) ∧ (∀ pos, s.sdo true false pos = some 0)
      ∧ ∀ n, s.panel.incoming = some n → (∀ pos, pos < n → s.sdo true true pos = some 0)
        ∧ ∀ i, s.sdo true true (n + i) = some (s.panel.response.getD i 0) := by
  refine ⟨fun taken pos => by simp [State.sdo], fun pos => by simp [State.sdo, h0], fun n hn => ⟨fun pos hpos => ?_,
    fun i => ?_⟩⟩
  · simp [State.sdo, h0, hn, hpos]
  · simp [State.sdo, h0, hn]

/-! ### Judging (R194) -/

/-- A command served with its argument count takes its answer and effect. -/
theorem serve_of_count {served : Bool} {count : Nat} {args : List Byte} {body s : State} (h0 : s.resetHeld = false)
    (hs : served = true) (hc : args.length = count) : serve served count args body s = noteTaken args body := by
  subst hs hc
  exact serve_taken h0

/-- A command that the state does not serve is answered NOT READY. -/
theorem serve_of_not_served {served : Bool} {count : Nat} {args : List Byte} {body s : State}
    (h0 : s.resetHeld = false) (hs : served = false) : serve served count args body s
      = { s with panel := { s.panel with incoming := some (args.length + 2), response := [3] } } := by
  subst hs
  exact serve_not_ready h0

/-- A served command with a wrong argument count is answered REJECTED. -/
theorem serve_of_wrong_count {served : Bool} {count : Nat} {args : List Byte} {body s : State}
    (h0 : s.resetHeld = false) (hs : served = true) (hc : args.length ≠ count) : serve served count args body s
      = { s with panel := { s.panel with incoming := some (args.length + 2), response := [2] } } := by
  subst hs
  exact serve_bad_count h0 hc

theorem serves_of_idle {s : State} (h : s.mode = .loading ∨ s.mode = .configFault) : s.serves = false := by
  rcases h with h | h <;> simp [State.serves, h]

theorem serves_of_lull {s : State} (h : s.mode = .lull) : s.serves = true := by simp [State.serves, h]

/-- A station that serves the commands serves a RESTART. -/
theorem servesRestart_of_serves {s : State} (h : s.serves = true) : s.servesRestart = true := by
  unfold State.serves at h
  cases hm : s.mode <;> simp_all [State.servesRestart]

/-! ### Lengths of the answers (R197) -/

theorem trackBytes_length (track : List Entry) (i : Nat) : (trackBytes track i).length = 8 := by
  unfold trackBytes
  split <;> rfl

theorem arrivalBytes_length (zc : Nat) (items : List Arrival) (z : Nat) : (arrivalBytes zc items z).length = 5 := by
  unfold arrivalBytes
  split
  · cases items.getD z .none <;> rfl
  · rfl

theorem frontData_length (zc : Nat) (f : Front) : (frontData zc f).length = 97 := by
  simp [frontData, List.length_flatMap, trackBytes_length, arrivalBytes_length, recordFixed, be16]

theorem rosterEntry_bytes_length (e : RosterEntry) : e.bytes.length = 24 := by
  unfold RosterEntry.bytes
  split <;> rfl

theorem excRecord_bytes_length (r : ExcRecord) : r.bytes.length = 15 := by
  cases h : r.sighting <;> simp [ExcRecord.bytes, h, be16, be32]

theorem detail_bytes_length (d : Detail) : d.bytes.length = 2 := by cases d <;> rfl

theorem trace_bytes_length (t : Trace) (i : Nat) : (t.bytes i).length = 16 := by
  cases h : t.ring[i]? <;> simp [Trace.bytes, h, TraceEntry.bytes, detail_bytes_length, be32, be16]

/-- Each of the four counter groups has its own number of counters (R191). -/
theorem counters_group (c : Counters) (g : Fin 4) :
    ∃ cs, c.group g.val = some cs ∧ cs.length = [12, 8, 7, 5].getD g.val 0 := by
  match g with
  | 0 | 1 | 2 | 3 => exact ⟨_, rfl, rfl⟩

/-! ### The reading commands -/

/-- A reading command with data answers OK and changes nothing but the panel (R195). -/
theorem serve_answerRead {served : Bool} {count : Nat} {args d : List Byte} {data : Option (List Byte)} {s : State}
    (h0 : s.resetHeld = false) (hs : served = true) (hc : args.length = count) (hd : data = some d) :
    serve served count args (answerRead data s) s
      = { s with panel := { s.panel with incoming := some (args.length + 2), response := 1 :: d } } := by
  rw [serve_of_count h0 hs hc, hd]
  rfl

/-- One without data is answered REJECTED (R194). -/
theorem serve_answerRead_none {served : Bool} {count : Nat} {args : List Byte} {data : Option (List Byte)} {s : State}
    (h0 : s.resetHeld = false) (hs : served = true) (hc : args.length = count) (hd : data = none) :
    serve served count args (answerRead data s) s
      = { s with panel := { s.panel with incoming := some (args.length + 2), response := [2] } } := by
  rw [serve_of_count h0 hs hc, hd]
  rfl

/-- Settles O5. -/
theorem transactionsAndReadingCommands : Obligations.TransactionsAndReadingCommands := by
  refine ⟨fun code args => ⟨rfl, rfl, rfl, rfl, panelCommand_of_unknown args, panelTransaction_of_whole code,
    fun _ => panelTransaction_of_cut code, rfl⟩, fun s h0 => ⟨sdo_values h0, ?status, fun hs => ?_⟩⟩
  case status =>
    refine congrArg _ ((serve_of_count h0 rfl rfl).trans ?_)
    cases h : s.loader.strap <;> simp [noteTaken, answerOk, respond, resultOk, State.statusBytes, h]
  refine ⟨fun i f hf => ⟨frontData_length _ f, ?front⟩, fun i e he => ⟨rosterEntry_bytes_length e, ?roster⟩,
    fun k z hz => ?zone, ⟨excRecord_bytes_length _, ?exc⟩, fun i hi => ⟨trace_bytes_length _ _, ?trace⟩, fun g => ?counters,
    fun c hc => ⟨rfl, ?config⟩⟩
  case front => exact congrArg _ (serve_answerRead h0 hs rfl (congrArg (Option.map _) hf))
  case roster => exact congrArg _ (serve_answerRead h0 hs rfl (congrArg (Option.map _) he))
  case zone => exact congrArg _ (serve_answerRead h0 hs rfl (congrArg (Option.map _) hz))
  case exc => exact congrArg _ (serve_of_count h0 hs rfl)
  case trace => exact congrArg _ (serve_answerRead h0 hs rfl (if_pos hi))
  case counters =>
    obtain ⟨cs, hcs, hlen⟩ := counters_group s.counters g
    refine ⟨cs, hcs, hlen, congrArg _ (serve_answerRead h0 hs rfl ?_)⟩
    have harg : argAt [byteOf g.val] 0 = g.val := byteOf_toNat (by omega)
    rw [harg, hcs]
    rfl
  case config => exact congrArg _ (serve_answerRead h0 hs rfl (congrArg (Option.map _) hc))

/-! ### Wakes by the panel -/

theorem wakeIfLull_of_lull {s : State} (h0 : s.resetHeld = false) (h : s.mode = .lull) : wakeIfLull s = wakeByPanel s := by
  simp [wakeIfLull, h0, h]

theorem wakeIfLull_of_awake {s : State} (h : s.mode ≠ .lull) : wakeIfLull s = s := by simp [wakeIfLull, h]

/-- An ACKNOWLEDGE ZONE or a RESTART that is refused outside LULL has no effect but its answer. -/
theorem serve_waking_wrong_count {served : Bool} {count : Nat} {args : List Byte} {body s : State}
    (h0 : s.resetHeld = false) (hs : served = true) (hc : args.length ≠ count) (hm : s.mode ≠ .lull) :
    serve served count args body (wakeIfLull s)
      = { s with panel := { s.panel with incoming := some (args.length + 2), response := [2] } } := by
  rw [wakeIfLull_of_awake hm]
  exact serve_of_wrong_count h0 hs hc

/-- The state after a wake by a panel command that is answered REJECTED (R160, R194). -/
def refusedAtWake (args : List Byte) (s : State) : State :=
  { wakeByPanel s with panel := { s.panel with incoming := some (args.length + 2), response := [2] } }

/-- What a refused command leaves of a station in LULL: the wake, and its answer. -/
theorem refusedAtWake_frame (args : List Byte) (s : State) :
    (refusedAtWake args s).panel = { s.panel with incoming := some (args.length + 2), response := [2] }
      ∧ (refusedAtWake args s).mode = .active ∧ (refusedAtWake args s).line.wakePending = true
      ∧ (refusedAtWake args s).line.rx = .quietWait false ∧ (refusedAtWake args s).warn.zones = s.warn.zones
      ∧ refusedAtWake args s = { s with
          mode := (refusedAtWake args s).mode, time := (refusedAtWake args s).time, line := (refusedAtWake args s).line
          warn := (refusedAtWake args s).warn, panel := (refusedAtWake args s).panel
          freeCount := (refusedAtWake args s).freeCount } := ⟨rfl, rfl, rfl, rfl, rfl, rfl⟩

theorem serve_waking_wrong_count_lull {served : Bool} {count : Nat} {args : List Byte} {body s : State}
    (h0 : s.resetHeld = false) (hs : served = true) (hc : args.length ≠ count) (hm : s.mode = .lull) :
    serve served count args body (wakeIfLull s) = refusedAtWake args s := by
  rw [wakeIfLull_of_lull h0 hm]
  exact serve_of_wrong_count (s := wakeByPanel s) h0 hs hc

/-! ### ACKNOWLEDGE ZONE -/

theorem execAcknowledgeZone_of_count {s : State} {k : Byte} (h0 : s.resetHeld = false) (hs : s.serves = true) :
    execAcknowledgeZone [k] s = .next (noteTaken [k] (judgeAcknowledge k.toNat (wakeIfLull s))) := by
  have h1 : (wakeIfLull s).resetHeld = false := by simp [h0]
  exact congrArg _ (serve_of_count h1 hs rfl)

/-- A zone that is not at ALARM, or no zone at all, is answered REJECTED. -/
theorem judgeAcknowledge_of_refused {s : State} {k : Nat} (h : s.acknowledgeable k = false) :
    judgeAcknowledge k s = answerRejected s := by simp [judgeAcknowledge, h]

theorem acknowledgeable_of_none {s : State} {k : Nat} (h : s.warn.zones.length ≤ k) : s.acknowledgeable k = false := by
  simp [State.acknowledgeable, List.getElem?_eq_none h]

theorem acknowledgeable_of_zone {s : State} {k : Nat} {z : Zone} (h : s.warn.zones[k]? = some z) :
    s.acknowledgeable k = (z.level == .alarm) := by simp [State.acknowledgeable, h]

/-- A refused ACKNOWLEDGE ZONE outside LULL. -/
theorem execAcknowledgeZone_of_refused {s : State} {k : Byte} (h0 : s.resetHeld = false) (hs : s.serves = true)
    (hm : s.mode ≠ .lull) (hk : s.acknowledgeable k.toNat = false) : execAcknowledgeZone [k] s
      = .next { s with panel := { s.panel with incoming := some 3, response := [2] } } := by
  rw [execAcknowledgeZone_of_count h0 hs, wakeIfLull_of_awake hm, judgeAcknowledge_of_refused hk]
  rfl

/-- A refused ACKNOWLEDGE ZONE in LULL. -/
theorem execAcknowledgeZone_of_refused_lull {s : State} {k : Byte} (h0 : s.resetHeld = false) (hm : s.mode = .lull)
    (hk : s.acknowledgeable k.toNat = false) : execAcknowledgeZone [k] s = .next (refusedAtWake [k] s) := by
  rw [execAcknowledgeZone_of_count h0 (serves_of_lull hm), wakeIfLull_of_lull h0 hm,
    judgeAcknowledge_of_refused (s := wakeByPanel s) hk]
  rfl

end Sys2Proof.Machine
end

section
/-! PROOFS. What the panel refuses, clears and takes (O6, O7 and O8). -/

namespace Sys2Proof.Machine

/-! ### Refusals (R194) -/

/-- A reading command whose argument names nothing is answered REJECTED. -/
theorem read_of_none {i : Byte} {data : Option (List Byte)} {s : State} (h0 : s.resetHeld = false)
    (hs : s.serves = true) (hd : data = none) :
    serve s.serves 1 [i] (answerRead data s) s
      = { s with panel := { s.panel with incoming := some 3, response := [2] } } := serve_answerRead_none h0 hs rfl hd

/-- A restart that LOADING does not serve. -/
theorem execRestart_of_loading {s : State} (args : List Byte) (h0 : s.resetHeld = false) (hm : s.mode = .loading) :
    execRestart args s
      = .next { s with panel := { s.panel with incoming := some (args.length + 2), response := [3] } } := by
  have hw : wakeIfLull s = s := wakeIfLull_of_awake (by simp [hm])
  unfold execRestart
  rw [hw]
  exact congrArg _ (serve_of_not_served h0 (by simp [State.servesRestart, hm]))

theorem execAcknowledgeZone_of_idle {s : State} (args : List Byte) (h0 : s.resetHeld = false)
    (hm : s.mode = .loading ∨ s.mode = .configFault) :
    execAcknowledgeZone args s
      = .next { s with panel := { s.panel with incoming := some (args.length + 2), response := [3] } } := by
  have hw : wakeIfLull s = s := wakeIfLull_of_awake (by rcases hm with hm | hm <;> simp [hm])
  unfold execAcknowledgeZone
  rw [hw]
  exact congrArg _ (serve_of_not_served h0 (serves_of_idle hm))

/-- An unknown command code is answered REJECTED (R194). -/
theorem execPanelUnknownCommand_of_unknown {s : State} {code : Byte} (args : List Byte) (h0 : s.resetHeld = false)
    (hc : code ∉ panelCodes) : execPanelUnknownCommand code args s
      = .next { s with panel := { s.panel with incoming := some (args.length + 2), response := [2] } } := by
  have hcut : (s.resetHeld || panelCodes.contains code) = false := by simp [h0, hc]
  simp only [execPanelUnknownCommand, hcut, Bool.false_eq_true, if_false]
  rfl

/-- Settles O6. -/
theorem panelRefusesWithoutEffect : Obligations.PanelRefusesWithoutEffect := by
  refine ⟨fun s args h0 => ⟨fun hm c hc => ?idle, execRestart_of_loading args h0, fun hs => ⟨fun p hp hcount => ?count,
    fun p hp hcount => ?waking, fun i => ⟨fun h => ?front, fun h => ?roster, fun h => ⟨?zone, fun hm => ?ack,
      fun hm => ?ackLull⟩, fun h => ?trace, fun h => ?counters⟩⟩⟩,
    fun s h0 => ⟨congrArg _ (if_neg (by simp [h0])), fun code args => execPanelUnknownCommand_of_unknown args h0⟩⟩
  case idle =>
    have hs := serves_of_idle hm
    simp only [List.mem_cons, List.not_mem_nil, or_false] at hc
    rcases hc with rfl | rfl | rfl | rfl | rfl | rfl | rfl | rfl | rfl | rfl | rfl | rfl
    case inr.inr.inr.inr.inl => exact execAcknowledgeZone_of_idle args h0 hm
    all_goals exact congrArg _ (serve_of_not_served h0 hs)
  case count =>
    simp only [List.mem_cons, List.not_mem_nil, or_false] at hp
    rcases hp with rfl | rfl | rfl | rfl | rfl | rfl | rfl | rfl | rfl | rfl | rfl | rfl
    case inl => exact congrArg _ (serve_of_wrong_count h0 rfl hcount)
    all_goals exact congrArg _ (serve_of_wrong_count h0 hs hcount)
  case waking =>
    have hr := servesRestart_of_serves hs
    simp only [List.mem_cons, List.not_mem_nil, or_false] at hp
    rcases hp with rfl | rfl
    · exact ⟨fun hm => congrArg _ (serve_waking_wrong_count h0 hs hcount hm), fun hm =>
        ⟨_, congrArg Host.Outcome.next (serve_waking_wrong_count_lull h0 hs hcount hm), refusedAtWake_frame args s⟩⟩
    · exact ⟨fun hm => congrArg _ (serve_waking_wrong_count h0 hr hcount hm), fun hm =>
        ⟨_, congrArg Host.Outcome.next (serve_waking_wrong_count_lull h0 hr hcount hm), refusedAtWake_frame args s⟩⟩
  case front => exact congrArg _ (read_of_none h0 hs (congrArg (Option.map _) (List.getElem?_eq_none h)))
  case roster => exact congrArg _ (read_of_none h0 hs (congrArg (Option.map _) (List.getElem?_eq_none h)))
  case zone => exact congrArg _ (read_of_none h0 hs (congrArg (Option.map _) (List.getElem?_eq_none h)))
  case ack => exact execAcknowledgeZone_of_refused h0 hs hm (acknowledgeable_of_none h)
  case ackLull =>
    exact ⟨_, execAcknowledgeZone_of_refused_lull h0 hm (acknowledgeable_of_none h), refusedAtWake_frame [i] s⟩
  case trace => exact congrArg _ (read_of_none h0 hs (if_neg (Nat.not_lt.2 h)))
  case counters =>
    have hgroup : s.counters.group i.toNat = none := by
      obtain ⟨n, hn⟩ := Nat.exists_eq_add_of_le' h
      rw [hn]
      rfl
    exact congrArg _ (read_of_none h0 hs (congrArg (Option.map _) hgroup))

/-! ### ATTN (R201) -/

theorem word16_ne_zero_iff (w : Word16) : w ≠ 0 ↔ ∃ k, w.getLsbD k = true := by
  rw [← not_iff_not, not_not, not_exists]
  exact ⟨fun h k => by simp [h], fun h => BitVec.eq_of_getLsbD_eq fun k _ => by simpa using h k⟩

theorem getLsbD_three (k : Nat) : (0x0003 : Word16).getLsbD k = decide (k < 2) := by
  by_cases hk : k < 16
  · have hall : ∀ i : Fin 16, (0x0003 : Word16).getLsbD i = decide (i.val < 2) := by decide
    exact hall ⟨k, hk⟩
  · have hge := Nat.not_lt.1 hk
    rw [BitVec.getLsbD_of_ge _ _ hge, eq_comm, decide_eq_false_iff_not]
    omega

theorem getLsbD_maskable (k : Nat) : maskableEvents.getLsbD k = (decide (2 ≤ k) && decide (k ≤ 8)) := by
  by_cases hk : k < 16
  · have hall : ∀ i : Fin 16, maskableEvents.getLsbD i = (decide (2 ≤ i.val) && decide (i.val ≤ 8)) := by decide
    exact hall ⟨k, hk⟩
  · have hge := Nat.not_lt.1 hk
    rw [BitVec.getLsbD_of_ge _ _ hge, eq_comm, Bool.and_eq_false_iff, decide_eq_false_iff_not, decide_eq_false_iff_not]
    omega

/-- The events that can assert ATTN: 0 and 1 always, 2 to 8 as the masks of the configuration say. -/
theorem attentionSet_getLsbD (s : State) (k : Nat) : s.attentionSet.getLsbD k = true ↔ k < 2
    ∨ ∃ c, s.loader.loaded = some c ∧ 2 ≤ k ∧ k ≤ 8 ∧ c.masks.getLsbD k = true := by
  unfold State.attentionSet
  cases h : s.loader.loaded with
  | none =>
    simp only [getLsbD_three, decide_eq_true_eq, reduceCtorEq, false_and, exists_false, or_false]
  | some c =>
    simp only [BitVec.getLsbD_or, BitVec.getLsbD_and, getLsbD_three, getLsbD_maskable, Bool.or_eq_true,
      Bool.and_eq_true, decide_eq_true_eq, Option.some.injEq, exists_eq_left']
    tauto

theorem attn_iff (s : State) : s.attn = true ↔ ∃ k, s.panel.events.getLsbD k = true ∧ s.attentionSet.getLsbD k = true := by
  simp only [State.attn, bne_iff_ne, word16_ne_zero_iff, BitVec.getLsbD_and, Bool.and_eq_true]

theorem attnLine_low_iff {s : State} (h0 : s.resetHeld = false) : s.attnLine = .low ↔ s.attn = true := by
  cases ha : s.attn <;> simp [State.attnLine, h0, ha, PinLevel.drive]

theorem attnLine_high {s : State} (h0 : s.resetHeld = false) (h : s.attnLine ≠ .low) : s.attnLine = .high := by
  cases ha : s.attn with
  | true => exact absurd ((attnLine_low_iff h0).2 ha) h
  | false => simp [State.attnLine, h0, ha, PinLevel.drive]

/-- Settles O7. -/
theorem clearCommandsClearOnlyTheirOwn : Obligations.ClearCommandsClearOnlyTheirOwn := by
  refine ⟨fun s h0 hs => ⟨fun a b => congrArg _ (serve_of_count h0 hs rfl), congrArg _ (serve_of_count h0 hs rfl),
    congrArg _ (serve_of_count h0 hs rfl)⟩, fun s h0 => ⟨?_, attnLine_high h0⟩⟩
  rw [attnLine_low_iff h0, attn_iff]
  simp only [attentionSet_getLsbD]
  constructor
  · rintro ⟨k, hk, hlow | ⟨c, hc, hmask⟩⟩
    · match k, hlow with
      | 0, _ => exact .inl hk
      | 1, _ => exact .inr (.inl hk)
    · exact .inr (.inr ⟨c, k, hc, hmask.1, hmask.2.1, hmask.2.2, hk⟩)
  · rintro (h | h | ⟨c, k, hc, h2, h8, hmask, hk⟩)
    · exact ⟨0, h, .inl (by decide)⟩
    · exact ⟨1, h, .inl (by decide)⟩
    · exact ⟨k, hk, .inr ⟨c, hc, h2, h8, hmask⟩⟩

/-! ### Commands taken -/

/-- An acknowledgement sets the zone's flag. -/
theorem acknowledge_of_zone {s : State} {k : Nat} {z : Zone} (h : s.warn.zones[k]? = some z) : acknowledge k s
    = { s with warn := { s.warn with zones := s.warn.zones.set k { z with ack := true } } } := by
  obtain ⟨hlt, hz⟩ := List.getElem?_eq_some_iff.1 h
  have hset : s.warn.zones.modify k (fun z => { z with ack := true }) = s.warn.zones.set k { z with ack := true } := by
    rw [List.modify_eq_set_getElem?, h]
    rfl
  unfold acknowledge
  rw [hset]

/-- An acknowledged zone's siren is silent (R172). -/
theorem sirenOn_of_acknowledged {s : State} {c : Fin 4} {z : Zone} (h : s.warn.zones[c.val]? = some z)
    (ha : z.ack = true) : s.sirenOn c = false := by simp [State.sirenOn, h, ha]

theorem execRestart_of_served {s : State} (h0 : s.resetHeld = false) (hm : s.mode ≠ .loading) : execRestart [] s
    = .next { wakeIfLull s with
        panel := { s.panel with incoming := some 2, response := [1], restartTaken := true } } :=
  congrArg _ (serve_of_count (s := wakeIfLull s) (by simp [h0]) (by simp [State.servesRestart, hm]) rfl)

/-- Settles O8. -/
theorem acknowledgeAndRestartAreTaken : Obligations.AcknowledgeAndRestartAreTaken := by
  refine ⟨fun s k z h0 hs hz => ⟨fun hm hl => ?taken, fun hm hl => ?refused, fun hm hl => ?lull⟩,
    fun s h0 => ⟨fun hl hm => ?restart, fun hm => ?wake⟩⟩
  case taken =>
    have hk : s.acknowledgeable k.toNat = true := by simp [acknowledgeable_of_zone hz, hl]
    refine ⟨_, ?_, rfl, ?_⟩
    · rw [show exec (.acknowledgeZone [k]) s = _ from execAcknowledgeZone_of_count h0 hs, wakeIfLull_of_awake hm,
        judgeAcknowledge, if_pos hk, acknowledge_of_zone hz]
      rfl
    · intro c hc
      have hlt : k.toNat < s.warn.zones.length := (List.getElem?_eq_some_iff.1 hz).1
      exact sirenOn_of_acknowledged (z := { z with ack := true }) (by simp [hc, hlt]) rfl
  case refused => exact execAcknowledgeZone_of_refused h0 hs hm (by simp [acknowledgeable_of_zone hz, hl])
  case lull =>
    exact ⟨_, execAcknowledgeZone_of_refused_lull h0 hm (by simp [acknowledgeable_of_zone hz, hl]),
      refusedAtWake_frame [k] s⟩
  case restart =>
    rw [show exec (.restart []) s = _ from execRestart_of_served h0 hl, wakeIfLull_of_awake hm]
  case wake =>
    refine ⟨_, (execRestart_of_served h0 (by simp [hm])).trans (by rw [wakeIfLull_of_lull h0 hm]), rfl, rfl, rfl, rfl, rfl⟩

end Sys2Proof.Machine
end

section
/-! PROOFS. The sensor inputs and the detector's tables (O9 and O14). -/

namespace Sys2Proof.Machine

/-- A station that is not held in reset runs in the modes that run. -/
theorem runs_of_mode {s : State} (h0 : s.resetHeld = false) (hm : s.mode.runs = true) : s.runs = true := by
  simp [State.runs, h0, hm]

/-! ### Anemometer, vane and dust -/

theorem takeEdge_of_chatter {t : Tick} {s : State} (h : s.sensor.chatters t = true) : takeEdge t s = { s with
    sensor := { s.sensor with chatter := s.sensor.chatter + 1 }
    counters := { s.counters with anemometerChatter := satInc s.counters.anemometerChatter } } := by
  simp [takeEdge, h, Sensor.discardEdge]

theorem takeEdge_of_accepted {t : Tick} {s : State} (h : s.sensor.chatters t = false) :
    takeEdge t s = { s with sensor := s.sensor.acceptEdge t } := by simp [takeEdge, h]

/-- The lines in which two codes differ, counted one by one. -/
theorem linesChanged_eq (a b : BitVec 4) :
    linesChanged a b = ((List.range 4).filter (fun i => b.getLsbD i != a.getLsbD i)).length := by
  revert a b
  decide

theorem takeVane_of_few {code : BitVec 4} {s : State} (h : linesChanged s.sensor.vane code < 2) :
    takeVane code s = { s with sensor := { s.sensor with vane := code } } := by
  simp [takeVane, Nat.not_le.2 h]

theorem takeVane_of_many {code : BitVec 4} {s : State} (h : 2 ≤ linesChanged s.sensor.vane code) :
    takeVane code s = { s with
      sensor := { s.sensor with vane := code, faulted := true }
      counters := { s.counters with vaneFaults := satInc s.counters.vaneFaults } } := by
  simp [takeVane, h]

theorem satInc_eq (c : Word16) : satInc c = if c = 65535 then 65535 else c + 1 := by
  unfold satInc
  split <;> simp_all

/-- Settles O9. -/
theorem sensorInputsAreRecorded : Obligations.SensorInputsAreRecorded := by
  intro s h0 hm
  have hr := runs_of_mode h0 hm
  refine ⟨fun offset now hnow => ?edge, fun code changed hchanged => ?vane, ?pulse,
    congrArg _ (if_pos hr)⟩
  case edge =>
    subst hnow
    have hexec : exec (.anemometerEdge offset) s = .next (takeEdge (s.time.capture + BitVec.ofNat 32 offset) s) :=
      congrArg _ (if_pos hr)
    refine ⟨fun a ha hlt => ?_, fun a ha hge => ?_, fun hnone => ?_⟩
    · rw [hexec, takeEdge_of_chatter]
      simp only [Sensor.chatters, ha]
      exact decide_eq_true hlt
    · have hch : s.sensor.chatters (s.time.capture + BitVec.ofNat 32 offset) = false := by
        simp only [Sensor.chatters, ha]
        exact decide_eq_false (Nat.not_lt.2 hge)
      rw [hexec, takeEdge_of_accepted hch]
      simp [Sensor.acceptEdge, Sensor.intervalTo, ha, captureDiff]
    · rw [hexec, takeEdge_of_accepted (by simp [Sensor.chatters, hnone])]
      simp [Sensor.acceptEdge, Sensor.intervalTo, hnone]
  case vane =>
    have hexec : exec (.vaneCodeChange code) s = .next (takeVane code s) := congrArg _ (if_pos hr)
    rw [← linesChanged_eq] at hchanged
    subst hchanged
    exact ⟨fun h => by rw [hexec, takeVane_of_few h], fun h => by rw [hexec, takeVane_of_many h]⟩
  case pulse =>
    rw [← satInc_eq]
    exact congrArg _ (if_pos hr)

/-! ### A Sample in CALM, RISING and BLIND (R71, R72) -/

theorem Detector.rise_of_fails {d : Detector} {p : Profile} {x : Sample} (own : Station)
    (h : satisfies p d.baseline x = false) : d.rise p own x = ({ d with state := .calm, run := none }, none) := by
  simp [Detector.rise, h]

theorem Detector.rise_opens {d : Detector} {p : Profile} {x : Sample} (own : Station)
    (h : satisfies p d.baseline x = true) (hst : ∀ k, d.state ≠ .rising k) :
    d.rise p own x = ({ d with state := .rising 1, run := some (SustainRun.opened x) }, none) := by
  cases hs : d.state with
  | rising k => exact absurd hs (hst k)
  | calm | gusting | easing k | refractory | blind => simp [Detector.rise, h, hs]

theorem Detector.rise_goesOn {d : Detector} {p : Profile} {x : Sample} {k : Nat} {r : SustainRun} (own : Station)
    (h : satisfies p d.baseline x = true) (hst : d.state = .rising k) (hrun : d.run = some r) (hk : k + 1 < p.sustain) :
    d.rise p own x = ({ d with state := .rising (k + 1), run := some (r.join x) }, none) := by
  simp [Detector.rise, h, hst, hrun, hk]

theorem Detector.rise_onset {d : Detector} {p : Profile} {x : Sample} {k : Nat} {r : SustainRun} (own : Station)
    (h : satisfies p d.baseline x = true) (hst : d.state = .rising k) (hrun : d.run = some r) (hk : p.sustain ≤ k + 1) :
    d.rise p own x = (d.onset (r.join x), some (onsetOf own d.nextSid (r.join x))) := by
  simp [Detector.rise, h, hst, hrun, Nat.not_lt.2 hk]

theorem SustainRun.join_eq (r : SustainRun) (x : Sample) : r.join x
    = ⟨r.firstStamp, max r.peak (x.speed.getD 0), maxDust r.dust x.dust, x.sector.or r.sector⟩ := by
  cases hs : x.sector <;> simp [SustainRun.join, hs]

/-! ### A Sample in GUSTING and EASING (R73, R74) -/

theorem sortSample_neutral {p : Profile} {a : Nat} {x : Sample} (h : x.speed = none) : sortSample p a x = .neutral := by
  simp [sortSample, h]

theorem sortSample_holding {p : Profile} {a v : Nat} {x : Sample} (h : x.speed = some v) (hv : a + p.gustMargin / 2 < v)
    (hd : ∀ c, x.dust = some c → p.onsetClass ≤ c.val) : sortSample p a x = .holding := by
  cases hx : x.dust with
  | none => simp [sortSample, h, hx, Nat.not_le.2 hv]
  | some c => simp [sortSample, h, hx, Nat.not_le.2 hv, Nat.not_lt.2 (hd c hx)]

theorem sortSample_failing {p : Profile} {a v : Nat} {x : Sample} (h : x.speed = some v)
    (hv : v ≤ a + p.gustMargin / 2 ∨ ∃ c, x.dust = some c ∧ c.val < p.onsetClass) : sortSample p a x = .failing := by
  rcases hv with hv | ⟨c, hx, hc⟩
  · simp [sortSample, h, hv]
  · simp [sortSample, h, hx, hc]

/-- A neutral Sample updates the gust record alone. -/
theorem Detector.gustSample_neutral {d : Detector} {p : Profile} {x : Sample} (own : Station) (g : GustRecord)
    (h : sortSample p (d.baselineAtOnset.getD 0) x = .neutral) :
    d.gustSample p own g x = ({ d with gust := some (g.update x) }, none) := by
  simp [Detector.gustSample, h]

theorem Detector.gustSample_holding {d : Detector} {p : Profile} {x : Sample} (own : Station) (g : GustRecord)
    (h : sortSample p (d.baselineAtOnset.getD 0) x = .holding) : d.gustSample p own g x
      = ({ d with gust := some (g.update x), state := .gusting, firstEasing := none }, none) := by
  simp [Detector.gustSample, h]

/-- A failing Sample that does not complete the count. -/
theorem Detector.gustSample_eases {d : Detector} {p : Profile} {x : Sample} (own : Station) (g : GustRecord)
    (h : sortSample p (d.baselineAtOnset.getD 0) x = .failing) (hk : d.state.easingCount + 1 < p.sustain) :
    d.gustSample p own g x = ({ d with
      gust := some (g.update x), state := .easing (d.state.easingCount + 1)
      firstEasing := some (d.firstEasing.getD x.stamp) }, none) := by
  simp [Detector.gustSample, h, hk]

/-- The failing Sample that ends the gust. -/
theorem Detector.gustSample_ends {d : Detector} {p : Profile} {x : Sample} (own : Station) (g : GustRecord)
    (h : sortSample p (d.baselineAtOnset.getD 0) x = .failing) (hk : p.sustain ≤ d.state.easingCount + 1) :
    d.gustSample p own g x = ({ d with gust := some (g.update x) }.enterRefractory p,
      some (subsideOf own d.nextSid (g.update x) (d.firstEasing.getD x.stamp) false)) := by
  simp [Detector.gustSample, h, Nat.not_lt.2 hk]

/-! ### The evaluation of a Sample (R68) -/

theorem Detector.judge_of_gust {d : Detector} (p : Profile) (own : Station) {g : GustRecord} (x : Sample)
    (hg : d.gust = some g) (hst : d.state = .gusting ∨ ∃ k, d.state = .easing k) :
    d.judge p own x = d.gustSample p own g x := by
  rcases hst with hst | ⟨k, hst⟩ <;> simp [Detector.judge, hst, hg]

theorem Detector.judge_of_rising {d : Detector} (p : Profile) (own : Station) {k : Nat} (x : Sample)
    (hst : d.state = .rising k) : d.judge p own x = d.rise p own x := by simp [Detector.judge, hst]

theorem Detector.judge_of_refractory {d : Detector} (p : Profile) (own : Station) (x : Sample)
    (hst : d.state = .refractory) : d.judge p own x = (d, none) := by simp [Detector.judge, hst]

/-- In CALM and in BLIND a sighted Sample is evaluated as in CALM (R69, R71). -/
theorem Detector.judge_of_calm {d : Detector} (p : Profile) (own : Station) (x : Sample)
    (hst : d.state = .calm ∨ d.state = .blind) : d.judge p own x = { d with state := .calm }.rise p own x := by
  rcases hst with hst | hst
  · rw [show ({ d with state := .calm } : Detector) = d by rw [← hst]]
    simp [Detector.judge, hst]
  · simp [Detector.judge, hst]

/-- The detector as a Sample has entered the window and been counted (R67, R77). -/
def Detector.entered (d : Detector) (x : Sample) (faulted : Bool) : Detector := (d.push x).countRuns x faulted

/-- A sighted Sample is judged by the detector's state. -/
theorem Detector.take_of_sighted {d : Detector} (p : Profile) (own : Station) {x : Sample} (faulted : Bool)
    (h : 6 ≤ (d.push x).baselineSpeeds.length) : d.take p own x faulted
      = ((((d.entered x faulted).judge p own x).1.examine false).rederive x, ((d.entered x faulted).judge p own x).2) := by
  have hb : ((d.push x).countRuns x faulted).blindNow = false := decide_eq_false (Nat.not_lt.2 h)
  simp only [Detector.take, hb]
  rfl

/-- A blind Sample makes the detector BLIND. -/
theorem Detector.take_of_blind {d : Detector} (p : Profile) (own : Station) {x : Sample} (faulted : Bool)
    (h : (d.push x).baselineSpeeds.length < 6) : d.take p own x faulted
      = ((((d.entered x faulted).goBlind own x).1.examine true).rederive x, ((d.entered x faulted).goBlind own x).2) := by
  have hb : ((d.push x).countRuns x faulted).blindNow = true := decide_eq_true h
  simp only [Detector.take, hb]
  rfl

theorem satisfies_eq_true_iff (p : Profile) (b : Nat) (x : Sample) : satisfies p b x = true
    ↔ ∃ v, x.speed = some v ∧ b + p.gustMargin < v ∧ ∀ c, x.dust = some c → p.onsetClass ≤ c.val := by
  cases hv : x.speed <;> cases hd : x.dust <;> simp [satisfies, hv, hd]

theorem satisfies_eq_false_iff (p : Profile) (b : Nat) (x : Sample) : satisfies p b x = false
    ↔ x.speed = none ∨ (∃ v, x.speed = some v ∧ v ≤ b + p.gustMargin) ∨ ∃ c, x.dust = some c ∧ c.val < p.onsetClass := by
  cases hv : x.speed <;> cases hd : x.dust <;>
    simp [satisfies, hv, hd, -Bool.and_eq_true, imp_iff_not_or]

/-- Settles O14. -/
theorem detectorFollowsItsTables : Obligations.DetectorFollowsItsTables := by
  intro d p own x faulted d1 b hsighted hb hd1
  have hbase : (d.entered x faulted).baseline = b := hb.symm
  rw [Detector.take_of_sighted p own faulted hsighted] at hd1 ⊢
  subst hd1
  refine ⟨satisfies_eq_true_iff p b x, satisfies_eq_false_iff p b x, fun hst => ?calm, fun k r hst hrun => ?rising,
    fun g a hg ha hst => ?gust, fun hst => ?refractory⟩
  case calm =>
    rw [Detector.judge_of_calm (d := d.entered x faulted) p own x hst]
    cases hsat : satisfies p b x with
    | true =>
      rw [Detector.rise_opens own (hbase ▸ hsat) (by simp)]
      exact ⟨rfl, fun _ => ⟨rfl, rfl⟩, fun h => Bool.noConfusion h⟩
    | false =>
      rw [Detector.rise_of_fails own (hbase ▸ hsat)]
      exact ⟨rfl, fun h => Bool.noConfusion h, fun _ => ⟨rfl, rfl⟩⟩
  case rising =>
    rw [Detector.judge_of_rising (d := d.entered x faulted) p own x hst]
    refine ⟨fun hsat hk => ?_, fun hsat => ?_⟩
    · rw [Detector.rise_goesOn (d := d.entered x faulted) own (by rw [hbase, hsat]) hst hrun hk, SustainRun.join_eq]
      exact ⟨rfl, rfl, rfl⟩
    · rw [Detector.rise_of_fails (d := d.entered x faulted) own (by rw [hbase, hsat])]
      exact ⟨rfl, rfl, rfl⟩
  case gust =>
    have hbl : (d.entered x faulted).baselineAtOnset.getD 0 = a := congrArg (Option.getD · 0) ha
    rw [Detector.judge_of_gust (d := d.entered x faulted) p own x hg hst]
    refine ⟨fun hv => ?_, fun v hv hlt hdust => ?_,
      fun v hv hfail => ⟨fun hgust hk hfirst => ?_, fun k e heas hk hfirst => ?_⟩⟩
    · rw [Detector.gustSample_neutral own g (sortSample_neutral hv)]
      refine ⟨rfl, rfl, rfl, ?_⟩
      simp [Detector.rederive, Detector.examine, GustRecord.update, hv]
    · rw [Detector.gustSample_holding own g (sortSample_holding hv (by rw [hbl]; exact hlt) hdust)]
      refine ⟨rfl, rfl, rfl, ?_⟩
      simp [Detector.rederive, Detector.examine, GustRecord.update, hv]
    · have hcount : (d.entered x faulted).state.easingCount = 0 := congrArg DetectorState.easingCount hgust
      rw [Detector.gustSample_eases own g (sortSample_failing hv (by rw [hbl]; exact hfail)) (by rw [hcount]; exact hk)]
      refine ⟨rfl, by rw [hcount]; rfl, congrArg (fun o : Option Tick => some (o.getD x.stamp)) hfirst, ?_⟩
      simp [Detector.rederive, Detector.examine, GustRecord.update, hv]
    · have hcount : (d.entered x faulted).state.easingCount = k := congrArg DetectorState.easingCount heas
      rw [Detector.gustSample_eases own g (sortSample_failing hv (by rw [hbl]; exact hfail)) (by rw [hcount]; exact hk)]
      refine ⟨rfl, by rw [hcount]; rfl, congrArg (fun o : Option Tick => some (o.getD x.stamp)) hfirst, ?_⟩
      simp [Detector.rederive, Detector.examine, GustRecord.update, hv]
  case refractory =>
    rw [Detector.judge_of_refractory (d := d.entered x faulted) p own x hst]
    exact ⟨rfl, hst⟩

end Sys2Proof.Machine
end

section
/-! PROOFS. The end of a sample period: the Sample, what the end of the period changes, and the SENSOR_FAULT conditions
(O10 and O15). -/

namespace Sys2Proof.Machine

/-- Two states with equal fields are equal. -/
theorem State.ext_fields {s t : State} (mode : s.mode = t.mode) (resetHeld : s.resetHeld = t.resetHeld)
    (straps : s.straps = t.straps) (loader : s.loader = t.loader) (table : s.table = t.table)
    (fusion : s.fusion = t.fusion) (exc : s.exc = t.exc) (sensor : s.sensor = t.sensor)
    (detector : s.detector = t.detector) (outbound : s.outbound = t.outbound) (line : s.line = t.line)
    (roster : s.roster = t.roster) (agree : s.agree = t.agree) (time : s.time = t.time) (warn : s.warn = t.warn)
    (trace : s.trace = t.trace) (counters : s.counters = t.counters) (panel : s.panel = t.panel)
    (freeCount : s.freeCount = t.freeCount) (pending : s.pending = t.pending) : s = t := by
  cases s
  cases t
  simp_all

/-! ### The Sample (R62 to R66) -/

theorem Sensor.periodSpeed_of_noise {x : Sensor} (k : Nat) (now : Tick) (h : 4 ≤ x.chatter ∧ x.edges < x.chatter) :
    x.periodSpeed k now = none := by simp [Sensor.periodSpeed, h]

/-- Two edges or more give the mean speed of their span. -/
theorem Sensor.periodSpeed_of_edges {x : Sensor} {a b : Tick} (k : Nat) (now : Tick)
    (h : ¬(4 ≤ x.chatter ∧ x.edges < x.chatter)) (he : 2 ≤ x.edges) (ha : x.firstEdge = some a)
    (hb : x.lastEdge = some b) :
    x.periodSpeed k now = some (min 1022 ((x.edges - 1) * k * 100 / (b - a).toNat)) := by
  simp only [Sensor.periodSpeed, if_neg h, if_pos he, Sensor.span, ha, hb, captureDiff]

/-- Fewer edges give the speed of the last period, while that is recent. -/
theorem Sensor.periodSpeed_of_period {x : Sensor} {a now : Tick} {q : Nat} (k : Nat)
    (h : ¬(4 ≤ x.chatter ∧ x.edges < x.chatter)) (he : x.edges < 2) (ha : x.lastAccepted = some a)
    (hq : x.lastPeriod = some q) (hr : (now - a).toNat ≤ 20000) : x.periodSpeed k now = some (min 1022 (k * 100 / q)) := by
  simp only [Sensor.periodSpeed, if_neg h, if_neg (Nat.not_le.2 he), ha, hq]
  exact if_pos hr

/-- Otherwise the air is still. -/
theorem Sensor.periodSpeed_of_still {x : Sensor} {now : Tick} (k : Nat) (h : ¬(4 ≤ x.chatter ∧ x.edges < x.chatter))
    (he : x.edges < 2) (hs : x.lastAccepted = none ∨ x.lastPeriod = none
      ∨ ∃ a, x.lastAccepted = some a ∧ 20000 < (now - a).toNat) : x.periodSpeed k now = some 0 := by
  simp only [Sensor.periodSpeed, if_neg h, if_neg (Nat.not_le.2 he)]
  rcases hs with ha | hq | ⟨a, ha, hgt⟩
  · simp only [ha]
  · cases ha : x.lastAccepted <;> simp only [hq]
  · cases hq : x.lastPeriod with
    | none => simp only [ha]
    | some q =>
      simp only [ha]
      exact if_neg (Nat.not_le.2 hgt)

/-- The vane's Gray code of each sector is read as that sector (R65). -/
theorem sectorOfCode_gray (n : Fin 16) : sectorOfCode (BitVec.ofNat 4 (n.val ^^^ (n.val / 2))) = n := by
  revert n
  decide

theorem dustClass_eq (p : Profile) (n : Nat) :
    dustClass p n = if n < p.dust1 then 0 else if n < p.dust2 then 1 else if n < p.dust3 then 2 else 3 := rfl

/-! ### Events -/

/-- A raise sets its own bit alone (R200). -/
theorem withEvent_getLsbD (b : Bool) (e : StatusEvent) (set : Word16) (k : Nat) :
    (withEvent b e set).getLsbD k = (set.getLsbD k || (b && decide (k = e.bit))) := by
  have hbit : e.bit < 16 := by cases e <;> decide
  cases b with
  | false => simp [withEvent]
  | true => simp [withEvent, StatusEvent.mask, BitVec.getLsbD_twoPow, hbit, eq_comm]

/-- An evaluation raises ZONE_RAISED, bit 5, at most. -/
theorem evaluateIf_events_getLsbD {s : State} (b : Bool) {k : Nat} (hk : k ≠ 5) :
    (evaluateIf b s).panel.events.getLsbD k = s.panel.events.getLsbD k := by
  cases b with
  | false => rfl
  | true =>
    show (evaluate s).panel.events.getLsbD k = _
    rw [evaluate_panel, withEvent_getLsbD]
    simp [StatusEvent.bit, hk]

/-! ### The sighting a Sample makes -/

theorem handSighting_awake {s : State} (g : Sighting) (h : s.mode ≠ .lull ∨ g.kind ≠ .onset) :
    handSighting g s = offerOutbound g s := by
  have hno : ¬(s.mode = .lull ∧ g.kind = .onset) := by tauto
  simp [handSighting, hno]

theorem handSighting_wakes {s : State} {g : Sighting} (hm : s.mode = .lull) (hg : g.kind = .onset) :
    handSighting g s = offerOutbound g (wakeAfter 0 false s) := by simp [handSighting, hm, hg]

/-- Handing over what a Sample made either leaves the mode, the time, the line and the Warning Unit, or wakes the
station from LULL with an ONSET (R72, R160). -/
theorem handMade_cases (made : Option Sighting) (s : State) :
    (handMade made s).mode = s.mode ∧ (handMade made s).time = s.time ∧ (handMade made s).line = s.line
        ∧ (handMade made s).warn = s.warn
      ∨ s.mode = .lull ∧ (∃ g, made = some g ∧ g.kind = .onset) ∧ (handMade made s).mode = .active
        ∧ (handMade made s).line.wakePending = true := by
  cases made with
  | none => exact .inl ⟨rfl, rfl, rfl, rfl⟩
  | some g =>
    by_cases h : s.mode = .lull ∧ g.kind = .onset
    · refine .inr ⟨h.1, ⟨g, rfl, h.2⟩, ?_⟩
      rw [handMade, handSighting_wakes h.1 h.2]
      exact ⟨rfl, rfl⟩
    · refine .inl ?_
      rw [handMade, handSighting_awake g (by tauto)]
      exact ⟨rfl, rfl, rfl, rfl⟩

theorem handMade_clock (made : Option Sighting) (s : State) : (handMade made s).time.yardClock = s.time.yardClock := by
  unfold handMade handSighting
  repeat' split
  all_goals rfl

theorem handMade_zones (made : Option Sighting) (s : State) : (handMade made s).warn.zones = s.warn.zones := by
  unfold handMade handSighting
  repeat' split
  all_goals rfl

/-- The Outbound Queue counts its refusals and nothing else (R79). -/
theorem handMade_counters (made : Option Sighting) (s : State) : (handMade made s).counters
    = { s.counters with outboundRefused := (handMade made s).counters.outboundRefused } := by
  unfold handMade handSighting
  repeat' split
  all_goals rfl

/-! ### The end of a period -/

/-- What the detector makes of the Sample that is built: the detector after it, and the sighting it makes. -/
def State.sampleTaken (s : State) : Detector × Option Sighting :=
  s.detector.take s.profile s.own s.sampleBuilt s.sensor.faulted

/-- The state as the detector has taken the Sample of the period that ends. -/
def State.sampleIn (ready : Bool) (s : State) : State :=
  raiseIf (faultBegins s.detector s.sampleTaken.1) .sensorFault { s with
    sensor := s.sensor.nextPeriod s.profile.samplePeriodT ready s.sampleBuilt, detector := s.sampleTaken.1 }

/-- The state as a period ends, before the report to the Warning Unit: the sighting the Sample makes is handed over. -/
def State.periodEnded (ready : Bool) (s : State) : State := handMade s.sampleTaken.2 (s.sampleIn ready)

/-- A Sample brings a report to the Warning Unit (R82). -/
def State.sampleReports (s : State) : Bool := reportsChange s.detector s.sampleTaken.1 s.sampleTaken.2

theorem endPeriod_eq (ready : Bool) (s : State) :
    endPeriod ready s = evaluateIf s.sampleReports (s.periodEnded ready) := rfl

theorem exec_samplePeriodEnd {s : State} (ready : Bool) (h0 : s.resetHeld = false) (hm : s.mode.runs = true)
    (hp : s.sensor.periodLeft = some 0) : exec (.samplePeriodEnd ready) s = .next (finishAtTick (endPeriod ready s)) :=
  congrArg _ (if_pos ⟨runs_of_mode h0 hm, hp⟩)

theorem endPeriod_sensor (ready : Bool) (s : State) :
    (endPeriod ready s).sensor = s.sensor.nextPeriod s.profile.samplePeriodT ready s.sampleBuilt := by
  simp [endPeriod_eq, State.periodEnded, State.sampleIn]

theorem endPeriod_detector (ready : Bool) (s : State) : (endPeriod ready s).detector = s.sampleTaken.1 := by
  simp [endPeriod_eq, State.periodEnded, State.sampleIn]

theorem endPeriod_counters (ready : Bool) (s : State) : (endPeriod ready s).counters
    = { s.counters with outboundRefused := (endPeriod ready s).counters.outboundRefused } := by
  rw [endPeriod_eq, evaluateIf_counters, State.periodEnded]
  exact handMade_counters _ _

/-- What the end of a period may change. -/
theorem finishAtTick_endPeriod_frame (ready : Bool) (s : State) : finishAtTick (endPeriod ready s) = { s with
    mode := (finishAtTick (endPeriod ready s)).mode, sensor := (finishAtTick (endPeriod ready s)).sensor
    detector := (finishAtTick (endPeriod ready s)).detector, outbound := (finishAtTick (endPeriod ready s)).outbound
    line := (finishAtTick (endPeriod ready s)).line, time := (finishAtTick (endPeriod ready s)).time
    warn := (finishAtTick (endPeriod ready s)).warn, counters := (finishAtTick (endPeriod ready s)).counters
    panel := (finishAtTick (endPeriod ready s)).panel, freeCount := (finishAtTick (endPeriod ready s)).freeCount } := by
  apply State.ext_fields <;> simp

theorem periodEnded_events (ready : Bool) (s : State) (k : Nat) : (s.periodEnded ready).panel.events.getLsbD k
    = (s.panel.events.getLsbD k || (faultBegins s.detector s.sampleTaken.1 && decide (k = 6))) := by
  rw [State.periodEnded, handMade_panel]
  exact withEvent_getLsbD _ _ _ _

/-- An evaluation at the end of a period reads the state before it but for the detector (R166). -/
theorem evaluate_periodEnded (ready : Bool) (s : State) :
    (evaluate (s.periodEnded ready)).warn.zones = (evaluate { s with detector := s.sampleTaken.1 }).warn.zones
      ∧ (evaluate (s.periodEnded ready)).panel.events.getLsbD 5
        = (evaluate { s with detector := s.sampleTaken.1 }).panel.events.getLsbD 5 := by
  have hl : (s.periodEnded ready).loader = s.loader := by simp [State.periodEnded, State.sampleIn]
  have ht : (s.periodEnded ready).table = s.table := by simp [State.periodEnded, State.sampleIn]
  have hd : (s.periodEnded ready).detector = s.sampleTaken.1 := by simp [State.periodEnded, State.sampleIn]
  have hy : (s.periodEnded ready).time.yardClock = s.time.yardClock := handMade_clock _ _
  have hw : (s.periodEnded ready).warn.zones = s.warn.zones := handMade_zones _ _
  refine ⟨evaluate_zones_congr hl ht (by rw [hd]) hy hw, evaluate_raised_congr hl ht (by rw [hd]) hy hw ?_⟩
  rw [periodEnded_events]
  simp

/-- A period that ends without an ONSET in LULL leaves the mode, the time, the line and, before the report, the Warning
Unit as they are. -/
theorem periodEnded_cases (ready : Bool) (s : State) :
    (s.periodEnded ready).mode = s.mode ∧ (s.periodEnded ready).time = s.time ∧ (s.periodEnded ready).line = s.line
        ∧ (s.periodEnded ready).warn = s.warn
      ∨ s.mode = .lull ∧ (∃ g, s.sampleTaken.2 = some g ∧ g.kind = .onset) ∧ (s.periodEnded ready).mode = .active
        ∧ (s.periodEnded ready).line.wakePending = true := handMade_cases _ _

/-- The station that keeps its mode over the end of a period was not woken by it. -/
theorem periodEnded_kept {ready : Bool} {s : State} (h : (finishAtTick (endPeriod ready s)).mode = s.mode) :
    (s.periodEnded ready).mode = s.mode ∧ (s.periodEnded ready).time = s.time ∧ (s.periodEnded ready).line = s.line
      ∧ (s.periodEnded ready).warn = s.warn := by
  refine (periodEnded_cases ready s).resolve_right ?_
  rintro ⟨hm, -, hmode, hwake⟩
  have hnot : (endPeriod ready s).lullReady = false := by simp [State.lullReady, endPeriod_eq, hwake]
  rw [finishAtTick_of_not_ready hnot] at h
  have : (endPeriod ready s).mode = .active := by rw [endPeriod_eq, evaluateIf_mode, hmode]
  rw [show ({ endPeriod ready s with line := { (endPeriod ready s).line with openFresh := false } } : State).mode
    = (endPeriod ready s).mode from rfl, this, hm] at h
  cases h

/-- And it keeps the Warning Unit that the report leaves. -/
theorem finishAtTick_endPeriod_warn {ready : Bool} {s : State} (h : (finishAtTick (endPeriod ready s)).mode = s.mode) :
    (finishAtTick (endPeriod ready s)).warn = (endPeriod ready s).warn := by
  have hm : (endPeriod ready s).mode = s.mode := by rw [endPeriod_eq, evaluateIf_mode, (periodEnded_kept h).1]
  exact finishAt_warn _ _ (h.trans hm.symm)

/-- A Sample without a report leaves the zones, and the Warning Unit of a station that keeps its mode. -/
theorem endPeriod_quiet {s : State} (ready : Bool) (h : s.sampleReports = false) :
    (finishAtTick (endPeriod ready s)).warn.zones = s.warn.zones
      ∧ (finishAtTick (endPeriod ready s)).panel.events.getLsbD 5 = s.panel.events.getLsbD 5
      ∧ ((finishAtTick (endPeriod ready s)).mode = s.mode → (finishAtTick (endPeriod ready s)).warn = s.warn) := by
  have he : endPeriod ready s = s.periodEnded ready := by rw [endPeriod_eq, h, evaluateIf, if_neg Bool.false_ne_true]
  refine ⟨?_, ?_, fun hm => ?_⟩
  · rw [finishAtTick_zones, he]
    exact handMade_zones _ _
  · rw [finishAtTick_panel, he, periodEnded_events]
    simp
  · rw [finishAtTick_endPeriod_warn hm, he]
    exact (periodEnded_kept hm).2.2.2

/-- A Sample with a report has the zones evaluated under the new detector (R82, R166). -/
theorem endPeriod_reported {s : State} (ready : Bool) (h : s.sampleReports = true) :
    (finishAtTick (endPeriod ready s)).warn.zones = (evaluate { s with detector := s.sampleTaken.1 }).warn.zones
      ∧ (finishAtTick (endPeriod ready s)).panel.events.getLsbD 5
        = (evaluate { s with detector := s.sampleTaken.1 }).panel.events.getLsbD 5
      ∧ ((finishAtTick (endPeriod ready s)).mode = s.mode →
        (finishAtTick (endPeriod ready s)).warn = (evaluate { s with detector := s.sampleTaken.1 }).warn) := by
  have he : endPeriod ready s = evaluate (s.periodEnded ready) := by rw [endPeriod_eq, h, evaluateIf, if_pos rfl]
  obtain ⟨hzones, hevent⟩ := evaluate_periodEnded ready s
  refine ⟨?_, ?_, fun hm => ?_⟩
  · rw [finishAtTick_zones, he, hzones]
  · rw [finishAtTick_panel, he, hevent]
  · obtain ⟨hmode, htime, -, hwarn⟩ := periodEnded_kept hm
    rw [finishAtTick_endPeriod_warn hm, he]
    exact evaluate_warn_congr (by simp [State.periodEnded, State.sampleIn])
      (by simp [State.periodEnded, State.sampleIn]) (by simp [State.periodEnded, State.sampleIn])
      (by rw [htime]) hmode hwarn

theorem sameName_iff (a b : DetectorState) : a.sameName b = true
    ↔ b = a ∨ (∃ j k, a = .rising j ∧ b = .rising k) ∨ ∃ j k, a = .easing j ∧ b = .easing k := by
  unfold DetectorState.sameName
  cases a <;> cases b <;> simp

/-- A Sample brings no report when the detector keeps its state and override and no ONSET is made (R82). -/
theorem reportsChange_eq_false_iff (d0 d1 : Detector) (made : Option Sighting) : reportsChange d0 d1 made = false
    ↔ (d1.state = d0.state ∨ (∃ j k, d0.state = .rising j ∧ d1.state = .rising k)
          ∨ ∃ j k, d0.state = .easing j ∧ d1.state = .easing k)
      ∧ d1.localOverride = d0.localOverride ∧ ∀ g, made = some g → g.kind ≠ .onset := by
  rw [← sameName_iff]
  cases made <;> simp [reportsChange, @eq_comm _ d1.localOverride, and_assoc]

/-- Settles O10. -/
theorem samplePeriodEndBuildsTheSample : Obligations.SamplePeriodEndBuildsTheSample := by
  intro s ready h0 hm hp
  have hdet : (finishAtTick (endPeriod ready s)).detector = s.sampleTaken.1 := by
    rw [finishAtTick_detector, endPeriod_detector]
  refine ⟨_, s.sampleBuilt, exec_samplePeriodEnd ready h0 hm hp, rfl,
    fun h1 h2 => Sensor.periodSpeed_of_noise _ _ ⟨h1, h2⟩,
    fun h he a b ha hb => Sensor.periodSpeed_of_edges _ _ h he ha hb,
    fun h he => ⟨fun a q ha hq hr => Sensor.periodSpeed_of_period _ h he ha hq hr,
      fun hs => Sensor.periodSpeed_of_still _ h he hs⟩,
    fun hf => if_pos hf, fun hf n hn => ?sector, fun hn => ⟨if_pos hn, if_pos hn⟩, fun hn => ?dust, ?sensor, hdet,
    ?window, ?priming, fun quiet hq => ⟨fun h => ?quiet, fun h => ?loud⟩, ?counters,
    finishAtTick_endPeriod_frame ready s⟩
  case sector =>
    have hsector : s.sensor.periodSector = some (sectorOfCode s.sensor.vane) := if_neg (by simp [hf])
    rw [← sectorOfCode_gray n, ← hn]
    exact hsector
  case dust =>
    rw [← dustClass_eq]
    exact ⟨if_neg (by simp [hn]), if_neg (by simp [hn])⟩
  case sensor => rw [finishAtTick_sensor, endPeriod_sensor]; rfl
  case window => rw [hdet]; exact (Detector.take_counts _ _ _ _ _).1
  case priming => rw [hdet]; exact (Detector.take_counts _ _ _ _ _).2.1
  case quiet =>
    rw [hdet] at hq
    exact endPeriod_quiet ready ((reportsChange_eq_false_iff _ _ _).2 (hq.1 h))
  case loud =>
    rw [hdet] at hq ⊢
    exact endPeriod_reported ready (Bool.not_eq_false _ ▸ fun hr => h (hq.2 ((reportsChange_eq_false_iff _ _ _).1 hr)))
  case counters =>
    rw [finishAtTick_counters]
    exact endPeriod_counters ready s

/-! ### SENSOR_FAULT (R77) -/

/-- The conditions that a Sample leaves: at a blind Sample the blind condition alone is examined. -/
theorem Detector.take_conditions (d : Detector) (p : Profile) (own : Station) (x : Sample) (v : Bool) :
    (d.take p own x v).1.condBlind = ((d.take p own x v).1.state == .blind && (d.take p own x v).1.priming == 16)
      ∧ (d.take p own x v).1.sensorFault = ((d.take p own x v).1.condBlind || (d.take p own x v).1.condDust
        || (d.take p own x v).1.condVane) := ⟨rfl, rfl⟩

theorem Detector.take_conditions_sighted {d : Detector} (p : Profile) (own : Station) {x : Sample} (v : Bool)
    (h : 6 ≤ (d.push x).baselineSpeeds.length) : (d.take p own x v).1.condDust = ((d.take p own x v).1.dustRun == 8)
      ∧ (d.take p own x v).1.condVane = ((d.take p own x v).1.vaneRun == 8) := by
  rw [Detector.take_of_sighted p own v h]
  exact ⟨rfl, rfl⟩

theorem Detector.take_conditions_blind {d : Detector} (p : Profile) (own : Station) {x : Sample} (v : Bool)
    (h : (d.push x).baselineSpeeds.length < 6) : (d.take p own x v).1.state = .blind
      ∧ (d.take p own x v).1.condDust = d.condDust ∧ (d.take p own x v).1.condVane = d.condVane := by
  rw [Detector.take_of_blind p own v h, Detector.goBlind_frame]
  exact ⟨rfl, rfl, rfl⟩

theorem runCount8_eq (b : Bool) (n : Nat) : runCount8 b n = if b then min 8 (n + 1) else 0 := rfl

/-- SENSOR_FAULT is raised as a condition begins to hold (R77). -/
theorem endPeriod_sensorFault (ready : Bool) (s : State) : (finishAtTick (endPeriod ready s)).panel.events.getLsbD 6
    = (s.panel.events.getLsbD 6 || faultBegins s.detector s.sampleTaken.1) := by
  rw [finishAtTick_panel, endPeriod_eq, evaluateIf_events_getLsbD _ (by decide), periodEnded_events]
  simp

/-- Settles O15. -/
theorem sensorFaultFollowsItsConditions : Obligations.SensorFaultFollowsItsConditions := by
  intro s ready h0 hm hp
  refine ⟨_, exec_samplePeriodEnd ready h0 hm hp, ?_⟩
  rw [show (finishAtTick (endPeriod ready s)).detector = s.sampleTaken.1 by
    rw [finishAtTick_detector, endPeriod_detector], endPeriod_sensorFault]
  obtain ⟨-, hpriming, hdust, hvane⟩ :=
    Detector.take_counts s.detector s.profile s.own s.sampleBuilt s.sensor.faulted
  obtain ⟨hblind, hflag⟩ := Detector.take_conditions s.detector s.profile s.own s.sampleBuilt s.sensor.faulted
  refine ⟨hdust.trans ?_, hvane, hblind, fun h => Detector.take_conditions_sighted _ _ _ h, fun h => ?_, hflag, ?_⟩
  · simp [runCount8_eq]
  · obtain ⟨hstate, hd, hv⟩ := Detector.take_conditions_blind s.profile s.own s.sensor.faulted h
    refine ⟨?_, Prod.ext hd hv⟩
    rw [show s.sampleTaken.1.condBlind = _ from hblind, hstate, hpriming, Bool.eq_iff_iff]
    simp only [beq_self_eq_true, Bool.true_and, beq_iff_eq, decide_eq_true_eq]
    omega
  · simp only [faultBegins, Bool.or_assoc]

end Sys2Proof.Machine
end

section
/-! PROOFS. The sightings that the end of a sample period makes: an ONSET, a SUBSIDE, a cut SUBSIDE (O11, O12 and O13). -/

namespace Sys2Proof.Machine

/-! ### The Outbound Queue -/

theorem refusesOutbound_iff (s : State) (g : Sighting) : s.refusesOutbound g = true
    ↔ s.mode = .listening ∨ 8 ≤ s.outbound.length ∨ ∃ q ∈ s.outbound, q.sid = g.sid := by
  simp [State.refusesOutbound, or_assoc]

/-- A sighting is offered to the queue as the wake found it: a wake does not make the queue refuse. -/
theorem handSighting_offer (g : Sighting) (s : State) :
    (handSighting g s).outbound = (if s.refusesOutbound g then s.outbound else s.outbound ++ [g])
      ∧ (handSighting g s).counters = { s.counters with
        outboundRefused :=
          if s.refusesOutbound g then satInc s.counters.outboundRefused else s.counters.outboundRefused } := by
  by_cases hw : s.mode = .lull ∧ g.kind = .onset
  · have hrefuses : s.refusesOutbound g = (wakeAfter 0 false s).refusesOutbound g := by
      simp only [State.refusesOutbound, hw.1]
      rfl
    rw [handSighting_wakes hw.1 hw.2, hrefuses]
    exact ⟨rfl, rfl⟩
  · rw [handSighting_awake g (by simpa [imp_iff_not_or] using hw)]
    exact ⟨rfl, rfl⟩

theorem periodEnded_offer {s : State} {g : Sighting} (ready : Bool) (h : s.sampleTaken.2 = some g) :
    (s.periodEnded ready).outbound = (if s.refusesOutbound g then s.outbound else s.outbound ++ [g])
      ∧ (s.periodEnded ready).counters = { s.counters with
        outboundRefused :=
          if s.refusesOutbound g then satInc s.counters.outboundRefused else s.counters.outboundRefused } := by
  rw [State.periodEnded, h]
  exact handSighting_offer g _

theorem endPeriod_offer {s : State} {g : Sighting} (ready : Bool) (h : s.sampleTaken.2 = some g) :
    (endPeriod ready s).outbound = (if s.refusesOutbound g then s.outbound else s.outbound ++ [g])
      ∧ (endPeriod ready s).counters = { s.counters with
        outboundRefused :=
          if s.refusesOutbound g then satInc s.counters.outboundRefused else s.counters.outboundRefused } := by
  rw [endPeriod_eq, evaluateIf_outbound, evaluateIf_counters]
  exact periodEnded_offer ready h

theorem endPeriod_queued {s : State} {g : Sighting} (ready : Bool) (h : s.sampleTaken.2 = some g)
    (hm : s.mode ≠ .listening) (hl : s.outbound.length < 8) (hq : ∀ q ∈ s.outbound, q.sid ≠ g.sid) :
    (finishAtTick (endPeriod ready s)).outbound = s.outbound ++ [g]
      ∧ (finishAtTick (endPeriod ready s)).counters = s.counters := by
  have hr : s.refusesOutbound g ≠ true := by
    rw [Ne, refusesOutbound_iff]
    rintro (hc | hc | ⟨q, hc, hs⟩)
    · exact hm hc
    · omega
    · exact hq q hc hs
  obtain ⟨ho, hc⟩ := endPeriod_offer ready h
  rw [finishAtTick_outbound, finishAtTick_counters, ho, hc, if_neg hr, if_neg hr]
  exact ⟨rfl, rfl⟩

theorem endPeriod_refused {s : State} {g : Sighting} (ready : Bool) (h : s.sampleTaken.2 = some g)
    (hr : s.mode = .listening ∨ 8 ≤ s.outbound.length ∨ ∃ q ∈ s.outbound, q.sid = g.sid) :
    (finishAtTick (endPeriod ready s)).outbound = s.outbound
      ∧ (finishAtTick (endPeriod ready s)).counters
        = { s.counters with outboundRefused := satInc s.counters.outboundRefused } := by
  obtain ⟨ho, hc⟩ := endPeriod_offer ready h
  have hrt := (refusesOutbound_iff s g).2 hr
  rw [finishAtTick_outbound, finishAtTick_counters, ho, hc, if_pos hrt, if_pos hrt]
  exact ⟨rfl, rfl⟩

/-- A period that makes no sighting leaves the queue. -/
theorem endPeriod_nothing_made {s : State} (ready : Bool) (h : s.sampleTaken.2 = none) :
    (finishAtTick (endPeriod ready s)).outbound = s.outbound
      ∧ (finishAtTick (endPeriod ready s)).counters = s.counters := by
  rw [finishAtTick_outbound, finishAtTick_counters, endPeriod_eq, evaluateIf_outbound, evaluateIf_counters,
    State.periodEnded, h]
  exact ⟨rfl, rfl⟩

/-- After a SUBSIDE, LULL is not entered: it is queued, or a queue that refuses it is not empty, or the station is
LISTENING. -/
theorem endPeriod_not_ready_of_subside {s : State} {g : Sighting} (ready : Bool) (h : s.sampleTaken.2 = some g)
    (hk : g.kind ≠ .onset) : (endPeriod ready s).lullReady = false := by
  have hmode : (endPeriod ready s).mode = s.mode := by
    rw [endPeriod_eq, evaluateIf_mode]
    refine ((periodEnded_cases ready s).resolve_right ?_).1
    rintro ⟨-, ⟨g', hg', hon⟩, -⟩
    rw [h, Option.some.injEq] at hg'
    exact hk (hg' ▸ hon)
  by_cases hl : s.mode = .listening
  · exact lullReady_of_mode (by rw [hmode, hl]; decide)
  · refine lullReady_of_outbound ?_
    rw [(endPeriod_offer ready h).1]
    split
    next hr =>
      rintro hnil
      rcases (refusesOutbound_iff s g).1 hr with hc | hc | ⟨q, hc, -⟩
      · exact hl hc
      · simp [hnil] at hc
      · simp [hnil] at hc
    next => simp

/-! ### Periods that leave the mode -/

/-- Where LULL is neither left nor entered, a period changes neither the mode nor the time. -/
theorem endPeriod_stays {s : State} (ready : Bool) (hn : (endPeriod ready s).lullReady = false)
    (hk : ∀ g, s.sampleTaken.2 = some g → s.mode = .lull → g.kind ≠ .onset) :
    (finishAtTick (endPeriod ready s)).mode = s.mode ∧ (finishAtTick (endPeriod ready s)).time = s.time
      ∧ (finishAtTick (endPeriod ready s)).line = { s.line with openFresh := false } := by
  obtain ⟨hmode, htime, hline, -⟩ := (periodEnded_cases ready s).resolve_right fun ⟨hm, ⟨g, hg, hon⟩, _⟩ => hk g hg hm hon
  rw [finishAtTick_of_not_ready hn]
  refine ⟨?_, ?_, ?_⟩
  · exact (evaluateIf_mode (s := s.periodEnded ready) _).trans hmode
  · exact (evaluateIf_time (s := s.periodEnded ready) _).trans htime
  · have hl : (endPeriod ready s).line = s.line := by rw [endPeriod_eq, evaluateIf_line, hline]
    show { (endPeriod ready s).line with openFresh := false } = _
    rw [hl]

/-- A period in which LULL is not entered. -/
theorem finishAtTick_endPeriod_frame_of_not_ready {s : State} (ready : Bool) (hn : (endPeriod ready s).lullReady = false) :
    finishAtTick (endPeriod ready s) = { s with
      mode := (finishAtTick (endPeriod ready s)).mode, sensor := (finishAtTick (endPeriod ready s)).sensor
      detector := (finishAtTick (endPeriod ready s)).detector, outbound := (finishAtTick (endPeriod ready s)).outbound
      line := (finishAtTick (endPeriod ready s)).line, time := (finishAtTick (endPeriod ready s)).time
      warn := (finishAtTick (endPeriod ready s)).warn, counters := (finishAtTick (endPeriod ready s)).counters
      panel := (finishAtTick (endPeriod ready s)).panel } := by
  rw [finishAtTick_of_not_ready hn]
  apply State.ext_fields <;> simp

/-! ### An ONSET (R72) -/

/-- The ONSET of a sustain run that its last Sample completes. -/
theorem sampleTaken_of_onset {s : State} {k : Nat} {r : SustainRun} (hst : s.detector.state = .rising k)
    (hrun : s.detector.run = some r) (hk : s.profile.sustain ≤ k + 1)
    (h6 : 6 ≤ (s.detector.push s.sampleBuilt).baselineSpeeds.length)
    (hsat : satisfies s.profile (s.detector.push s.sampleBuilt).baseline s.sampleBuilt = true) :
    s.sampleTaken = (((((s.detector.entered s.sampleBuilt s.sensor.faulted).onset (r.join s.sampleBuilt)).examine
        false).rederive s.sampleBuilt), some (onsetOf s.own s.detector.nextSid (r.join s.sampleBuilt))) := by
  have hst' : (s.detector.entered s.sampleBuilt s.sensor.faulted).state = .rising k := hst
  rw [State.sampleTaken, Detector.take_of_sighted _ _ _ h6, Detector.judge_of_rising _ _ _ hst',
    Detector.rise_onset (d := s.detector.entered s.sampleBuilt s.sensor.faulted) s.own hsat hst' hrun hk]
  rfl

/-- An ONSET that wakes the station from LULL (R160). -/
theorem endPeriod_onset_of_lull {s : State} {g : Sighting} (ready : Bool) (h : s.sampleTaken.2 = some g)
    (hg : g.kind = .onset) (hm : s.mode = .lull) : (endPeriod ready s).mode = .active
      ∧ (endPeriod ready s).line.wakePending = true ∧ (endPeriod ready s).line.rx = .quietWait false
      ∧ (endPeriod ready s).time.wake = none ∧ (endPeriod ready s).warn = (evaluate { s with
        mode := .active, detector := s.sampleTaken.1
        warn := { s.warn with gens := resumeGens s.warn.zones s.warn.gens } }).warn := by
  have hr : s.sampleReports = true := by
    rw [← Bool.not_eq_false, State.sampleReports, reportsChange_eq_false_iff]
    exact fun hq => hq.2.2 g h hg
  have he : endPeriod ready s = evaluate (s.periodEnded ready) := by rw [endPeriod_eq, hr, evaluateIf, if_pos rfl]
  rw [he, State.periodEnded, h, handMade, handSighting_wakes (s := s.sampleIn ready) hm hg]
  exact ⟨rfl, rfl, rfl, rfl, evaluate_warn_congr rfl rfl rfl rfl rfl rfl⟩

/-- Settles O11. -/
theorem sustainRunMakesAnOnset : Obligations.SustainRunMakesAnOnset := by
  intro s ready k v r h0 hm hp hst hrun hk h6 hv hgt hdust
  have hsat : satisfies s.profile (s.detector.push s.sampleBuilt).baseline s.sampleBuilt = true :=
    (satisfies_eq_true_iff _ _ _).2 ⟨v, hv, hgt, hdust⟩
  have htaken := sampleTaken_of_onset hst hrun hk h6 hsat
  have hjoin : r.join s.sampleBuilt
      = ⟨r.firstStamp, max r.peak v, maxDust r.dust s.sampleBuilt.dust, s.sampleBuilt.sector.or r.sector⟩ := by
    rw [SustainRun.join_eq, hv, Option.getD_some]
  rw [hjoin] at htaken
  have hmade := congrArg Prod.snd htaken
  have hdet : (finishAtTick (endPeriod ready s)).detector = s.sampleTaken.1 := by
    rw [finishAtTick_detector, endPeriod_detector]
  have hstate : s.sampleTaken.1.state = .gusting := congrArg (fun x => x.1.state) htaken
  have hnot : (endPeriod ready s).lullReady = false :=
    lullReady_of_detector (by rw [endPeriod_detector, hstate]; exact DetectorState.noConfusion)
  have hreports : s.sampleReports = true := by
    rw [← Bool.not_eq_false, State.sampleReports, reportsChange_eq_false_iff]
    exact fun hq => hq.2.2 _ hmade rfl
  obtain ⟨hzones, hevent, hwarn⟩ := endPeriod_reported ready hreports
  refine ⟨_, _, exec_samplePeriodEnd ready h0 hm hp, rfl, ?_⟩
  rw [hdet]
  refine ⟨hstate, congrArg (fun x => x.1.run) htaken, congrArg (fun x => x.1.gust) htaken,
    congrArg (fun x => x.1.baselineAtOnset) htaken, congrArg (fun x => x.1.nextSid) htaken,
    congrArg (fun x => x.1.localOverride) htaken, fun h => endPeriod_refused ready hmade h,
    fun h1 h2 h3 => endPeriod_queued ready hmade h1 h2 h3, fun hl => ?lull, fun hl => ?awake, hzones, hevent,
    fun hd => ?override,
    (finishAtTick_endPeriod_frame_of_not_ready ready hnot).trans (by rw [hdet])⟩
  case lull =>
    rw [finishAtTick_of_not_ready hnot]
    exact endPeriod_onset_of_lull ready hmade rfl hl
  case awake =>
    obtain ⟨hmode, htime, hline⟩ := endPeriod_stays ready hnot fun _ _ h => absurd h hl
    exact ⟨hmode, htime, hline, hwarn hmode⟩
  case override =>
    have hover : s.sampleTaken.1.localOverride = true := by
      rw [congrArg (fun x => x.1.localOverride) htaken]
      simp [Detector.rederive, Detector.examine, Detector.onset, hd]
    rw [hzones]
    exact ⟨by simp [evaluate_zones], evaluate_override hover⟩

/-! ### A SUBSIDE (R74, R75) -/

theorem Detector.enterRefractory_eq (d : Detector) (p : Profile) : d.enterRefractory p
    = d.gustClosed (if p.refractoryT = 0 then .calm else .refractory)
        (if p.refractoryT = 0 then none else some p.refractoryT) := by
  unfold Detector.enterRefractory
  split <;> rfl

/-- The SUBSIDE of a gust that its last failing Sample ends. -/
theorem sampleTaken_of_subside {s : State} {k b v : Nat} {g : GustRecord} {e : Tick} (hst : s.detector.state = .easing k)
    (hg : s.detector.gust = some g) (he : s.detector.firstEasing = some e) (hb : s.detector.baselineAtOnset = some b)
    (hk : s.profile.sustain ≤ k + 1) (h6 : 6 ≤ (s.detector.push s.sampleBuilt).baselineSpeeds.length)
    (hv : s.sampleBuilt.speed = some v) (hfail : v ≤ b + s.profile.gustMargin / 2
      ∨ ∃ c, s.sampleBuilt.dust = some c ∧ c.val < s.profile.onsetClass) :
    s.sampleTaken = ((({ s.detector.entered s.sampleBuilt s.sensor.faulted with
        gust := some (g.update s.sampleBuilt) }.enterRefractory s.profile).examine false).rederive s.sampleBuilt,
      some (subsideOf s.own s.detector.nextSid (g.update s.sampleBuilt) e false)) := by
  have hst' : (s.detector.entered s.sampleBuilt s.sensor.faulted).state = .easing k := hst
  have hsort : sortSample s.profile
      ((s.detector.entered s.sampleBuilt s.sensor.faulted).baselineAtOnset.getD 0) s.sampleBuilt = .failing := by
    rw [show (s.detector.entered s.sampleBuilt s.sensor.faulted).baselineAtOnset = some b from hb]
    exact sortSample_failing hv hfail
  have hfirst : (s.detector.entered s.sampleBuilt s.sensor.faulted).firstEasing = some e := he
  rw [State.sampleTaken, Detector.take_of_sighted _ _ _ h6,
    Detector.judge_of_gust (d := s.detector.entered s.sampleBuilt s.sensor.faulted) _ _ _ hg (.inr ⟨k, hst'⟩),
    Detector.gustSample_ends s.own g hsort (by rw [hst']; exact hk), hfirst]
  rfl

theorem subside_not_onset (own : Station) (id : Byte) (g : GustRecord) (e : Tick) (cut : Bool) :
    (subsideOf own id g e cut).kind ≠ .onset := SightingKind.noConfusion

/-- Settles O12. -/
theorem gustEndsAndRefractoryTimeRunsOut : Obligations.GustEndsAndRefractoryTimeRunsOut := by
  refine ⟨fun s ready k b v g e h0 hm hp hst hg he hb hk h6 hv hfail => ?ends, fun s h0 hm hst hleft => ?expiry⟩
  case expiry =>
    have hexec : exec .refractoryExpiry s = .next (finishAtTick (evaluate
        { s with detector := { s.detector with state := .calm, refractoryLeft := none } })) :=
      congrArg _ (if_pos ⟨runs_of_mode h0 hm, hst, hleft⟩)
    refine ⟨hexec, _, hexec, by simp, ?_⟩
    apply State.ext_fields <;> simp
  case ends =>
    have htaken := sampleTaken_of_subside hst hg he hb hk h6 hv hfail
    rw [Detector.enterRefractory_eq] at htaken
    have hmade := congrArg Prod.snd htaken
    have hstate : s.sampleTaken.1.state = if s.profile.refractoryT = 0 then .calm else .refractory :=
      congrArg (fun x => x.1.state) htaken
    have hdet : (finishAtTick (endPeriod ready s)).detector = s.sampleTaken.1 := by
      rw [finishAtTick_detector, endPeriod_detector]
    have hnot := endPeriod_not_ready_of_subside ready hmade (subside_not_onset _ _ _ _ _)
    obtain ⟨hmode, htime, -⟩ := endPeriod_stays ready hnot fun x hx _ => by
      rw [hmade, Option.some.injEq] at hx
      exact hx ▸ subside_not_onset _ _ _ _ _
    have hreports : s.sampleReports = true := by
      rw [← Bool.not_eq_false, State.sampleReports, reportsChange_eq_false_iff, hstate, hst]
      split <;> simp
    obtain ⟨-, hevent, hwarn⟩ := endPeriod_reported ready hreports
    refine ⟨_, exec_samplePeriodEnd ready h0 hm hp, ?_⟩
    rw [hdet]
    refine ⟨hstate, congrArg (fun x => x.1.refractoryLeft) htaken, congrArg (fun x => x.1.gust) htaken,
      congrArg (fun x => x.1.baselineAtOnset) htaken, congrArg (fun x => x.1.firstEasing) htaken,
      congrArg (fun x => x.1.nextSid) htaken, ?_, fun h1 h2 h3 => ?_, hmode, htime, hwarn hmode, hevent, ?_⟩
    · rw [congrArg (fun x => x.1.localOverride) htaken]
      by_cases hz : s.profile.refractoryT = 0 <;> simp [Detector.rederive, Detector.examine, Detector.gustClosed, hz]
    · have hq := endPeriod_queued ready hmade h1 h2 h3
      simpa only [subsideOf, GustRecord.update, hv, Option.getD_some] using hq
    · rw [finishAtTick_of_not_ready hnot] at hmode htime ⊢
      apply State.ext_fields <;> simp_all

/-! ### BLIND (R69) -/

theorem Detector.goBlind_of_gust {d : Detector} (own : Station) {g : GustRecord} {x : Sample} {e : Tick}
    (hg : d.gust = some g)
    (hst : d.state = .gusting ∧ e = x.stamp ∨ (∃ k, d.state = .easing k) ∧ d.firstEasing = some e) :
    d.goBlind own x = (d.gustClosed .blind none, some (subsideOf own d.nextSid (g.update x) e true)) := by
  rcases hst with ⟨hst, rfl⟩ | ⟨⟨k, hst⟩, he⟩
  · simp [Detector.goBlind, hst, hg]
  · simp [Detector.goBlind, hst, hg, he]

theorem Detector.goBlind_of_no_gust {d : Detector} (own : Station) (x : Sample) (hg : d.state ≠ .gusting)
    (he : ∀ k, d.state ≠ .easing k) :
    d.goBlind own x = ({ d with state := .blind, run := none, refractoryLeft := none }, none) := by
  cases hst : d.state with
  | gusting => exact absurd hst hg
  | easing k => exact absurd hst (he k)
  | calm | rising k | refractory | blind => simp [Detector.goBlind, hst]

/-- What a blind Sample makes is a SUBSIDE. -/
theorem Detector.goBlind_made (d : Detector) (own : Station) (x : Sample) :
    ∀ g, (d.goBlind own x).2 = some g → g.kind ≠ .onset := by
  intro g hg
  unfold Detector.goBlind at hg
  split at hg
  · cases hg; exact subside_not_onset _ _ _ _ _
  · cases hg; exact subside_not_onset _ _ _ _ _
  · cases hg

/-- Settles O13. -/
theorem blindSampleEntersBlind : Obligations.BlindSampleEntersBlind := by
  intro s ready h0 hm hp h6
  have htaken : s.sampleTaken
      = (((((s.detector.entered s.sampleBuilt s.sensor.faulted).goBlind s.own s.sampleBuilt).1.examine true).rederive
          s.sampleBuilt), ((s.detector.entered s.sampleBuilt s.sensor.faulted).goBlind s.own s.sampleBuilt).2) :=
    Detector.take_of_blind _ _ _ h6
  have hmade := congrArg Prod.snd htaken
  have hframe := Detector.goBlind_frame (s.detector.entered s.sampleBuilt s.sensor.faulted) s.own s.sampleBuilt
  have hdet : (finishAtTick (endPeriod ready s)).detector = s.sampleTaken.1 := by
    rw [finishAtTick_detector, endPeriod_detector]
  have hstate : s.sampleTaken.1.state = .blind := by rw [htaken, hframe]; rfl
  have hover : s.sampleTaken.1.localOverride = false := by rw [htaken, hframe]; rfl
  have honset : ∀ g, s.sampleTaken.2 = some g → g.kind ≠ .onset := fun g hg =>
    Detector.goBlind_made _ _ _ g (hmade ▸ hg)
  have hnot : (endPeriod ready s).lullReady = false :=
    lullReady_of_detector (by rw [endPeriod_detector, hstate]; exact DetectorState.noConfusion)
  obtain ⟨hmode, -, -⟩ := endPeriod_stays ready hnot fun g hg _ => honset g hg
  refine ⟨_, exec_samplePeriodEnd ready h0 hm hp, ?_⟩
  rw [hdet]
  refine ⟨hstate, hover, fun k hst => ?rising, fun hst => ?refractory, fun hng hne => ?noGust,
    fun g e hg hst h1 h2 h3 => ?gust, fun h => ?reported, fun hb hl => ?quiet, hmode⟩
  case rising =>
    rw [Detector.goBlind_of_no_gust (d := s.detector.entered s.sampleBuilt s.sensor.faulted) _ _
      (fun h => DetectorState.noConfusion (hst.symm.trans h))
      (fun j h => DetectorState.noConfusion (hst.symm.trans h))] at htaken
    exact congrArg (fun x => x.1.run) htaken
  case refractory => rw [htaken, hframe]; rfl
  case noGust =>
    rw [Detector.goBlind_of_no_gust (d := s.detector.entered s.sampleBuilt s.sensor.faulted) _ _ hng hne] at htaken
    obtain ⟨ho, hc⟩ := endPeriod_nothing_made ready (congrArg Prod.snd htaken)
    exact ⟨ho, hc, congrArg (fun x => x.1.nextSid) htaken⟩
  case gust =>
    rw [Detector.goBlind_of_gust (d := s.detector.entered s.sampleBuilt s.sensor.faulted) (x := s.sampleBuilt) (e := e) _ hg
      hst] at htaken
    exact ⟨congrArg (fun x => x.1.gust) htaken, congrArg (fun x => x.1.nextSid) htaken,
      (endPeriod_queued ready (congrArg Prod.snd htaken) h1 h2 h3).1⟩
  case reported =>
    have hreports : s.sampleReports = true := by
      rw [← Bool.not_eq_false, State.sampleReports, reportsChange_eq_false_iff, hstate, hover]
      rintro ⟨hst | ⟨j, k, -, hst⟩ | ⟨j, k, -, hst⟩, ho, -⟩
      · rcases h with h | h
        · exact h hst.symm
        · simp [h] at ho
      · cases hst
      · cases hst
    obtain ⟨-, hevent, hwarn⟩ := endPeriod_reported ready hreports
    exact ⟨hwarn hmode, hevent⟩
  case quiet =>
    have hquiet : s.sampleReports = false := by
      rw [State.sampleReports, reportsChange_eq_false_iff, hstate, hover]
      exact ⟨.inl hb.symm, hl.symm, honset⟩
    obtain ⟨-, hevent, hwarn⟩ := endPeriod_quiet ready hquiet
    exact ⟨hwarn hmode, hevent⟩

end Sys2Proof.Machine
end

section
/-! PROOFS. The association of sightings and the choice of a slot and an id (O16, O17, O18 and O20). -/

namespace Sys2Proof.Machine

/-! ### The tests of one slot (R29 to R33) -/

theorem hypotenuse_eq (a b : Int) : hypotenuse a b = isqrt (a ^ 2 + b ^ 2).toNat := by
  simp only [hypotenuse, pow_two]

theorem slotTest_of_tracked {p : Profile} {g : Sighting} {f : Front} (hs : f.hasStation g.source = false)
    (ht : f.state = .tracked) : slotTest p g f = (trackedTest p f g, false) := by simp [slotTest, hs, ht]

theorem slotTest_of_forming {p : Profile} {g : Sighting} {f : Front} (hs : f.hasStation g.source = false)
    (ht : f.state = .forming) : slotTest p g f = formingTest p f g := by simp [slotTest, hs, ht]

/-- A FREE or DECAYING front, or one that holds an entry of the source, is no candidate (R29). -/
theorem slotTest_of_excluded {p : Profile} {g : Sighting} {f : Front}
    (h : f.state = .free ∨ f.state = .decaying ∨ f.hasStation g.source = true) : slotTest p g f = (none, false) := by
  cases hs : f.hasStation g.source with
  | true => simp [slotTest, hs]
  | false => rcases h with h | h | h <;> simp_all [slotTest]

/-- The residual of a tracked front (R30). -/
def trackedResidual (p : Profile) (f : Front) (g : Sighting) (l : Entry) : Nat :=
  hypotenuse (((p.position g.source).1 : Int)
      - ((p.position l.station).1 + (f.vx * tickDiff g.time l.onset).tdiv 10000))
    ((p.position g.source).2 - ((p.position l.station).2 + (f.vy * tickDiff g.time l.onset).tdiv 10000))

theorem trackedTest_eq {p : Profile} {f : Front} {g : Sighting} {a l : Entry} (ha : f.track.head? = some a)
    (hl : f.track.getLast? = some l) : trackedTest p f g
      = if tickDiff g.time a.onset < 0 then none
        else if trackedResidual p f g l ≤ p.assocRadius then some (trackedResidual p f g l) else none := by
  simp only [trackedTest, ha, hl]
  rfl

/-- Without velocity the residual is the distance from the latest station. -/
theorem trackedResidual_of_still {p : Profile} {f : Front} {g : Sighting} {l : Entry} (hx : f.vx = 0) (hy : f.vy = 0) :
    trackedResidual p f g l = distance (p.position l.station) (p.position g.source) := by
  simp [trackedResidual, distance, hx, hy]

/-- Settles O16. -/
theorem trackedFrontPassesByItsResidual : Obligations.TrackedFrontPassesByItsResidual := by
  intro p f g a l ha hl hst hsrc
  rw [slotTest_of_tracked hsrc hst, trackedTest_eq ha hl]
  refine ⟨fun r => ?_, fun hx hy h0 => ?_⟩
  · rw [← hypotenuse_eq]
    change _ ↔ 0 ≤ tickDiff g.time a.onset ∧ r ≤ p.assocRadius ∧ r = trackedResidual p f g l
    split_ifs with hneg hin
    · simp [Int.not_le.2 hneg]
    · have hpos := Int.not_lt.1 hneg
      constructor
      · rintro ⟨rfl⟩
        exact ⟨hpos, hin, rfl⟩
      · rintro ⟨-, -, rfl⟩
        rfl
    · constructor
      · rintro ⟨⟩
      · rintro ⟨-, hr, rfl⟩
        exact absurd hr hin
  · have hpos : ¬tickDiff g.time a.onset < 0 := Int.not_lt.2 h0
    rw [trackedResidual_of_still hx hy, if_neg hpos]
    split_ifs with hin <;> simp [hin]

/-- The window, the distance and the speed of a forming front's step (R31). -/
def StepPasses (p : Profile) (dt : Int) (d : Nat) : Prop :=
  0 < dt ∧ dt ≤ p.pairingT ∧ 0 < d ∧ (p.speedFloor : Int) * dt ≤ d * 10000 ∧ d * 10000 ≤ p.speedCeiling * dt

/-- The residual of a forming front (R33). -/
def formingResidual (p : Profile) (dt : Int) (d : Nat) : Nat :=
  ((d : Int) - (p.nominalSpeed * dt.toNat / 10000 : Nat)).natAbs

theorem formingTest_of_fails {p : Profile} {f : Front} {g : Sighting} {o : Entry} (ho : f.track.head? = some o)
    (h : ¬StepPasses p (tickDiff g.time o.onset) (distance (p.position o.station) (p.position g.source))) :
    formingTest p f g = (none, false) := by
  simp only [formingTest, ho]
  split_ifs with hwindow hspeed
  · rfl
  · rfl
  · simp only [Bool.not_eq_true', Bool.and_eq_false_iff, decide_eq_false_iff_not] at hwindow hspeed
    exact absurd ⟨by tauto, by tauto, by tauto, by tauto, by tauto⟩ h

theorem formingTest_of_passes {p : Profile} {f : Front} {g : Sighting} {o : Entry} (ho : f.track.head? = some o)
    (h : StepPasses p (tickDiff g.time o.onset) (distance (p.position o.station) (p.position g.source))) :
    formingTest p f g = match o.sector with
      | none => (some (formingResidual p (tickDiff g.time o.onset)
          (distance (p.position o.station) (p.position g.source))), true)
      | some s0 =>
        if downwindDifference (bearing (((p.position g.source).1 : Int) - (p.position o.station).1)
            ((p.position g.source).2 - (p.position o.station).2)) s0 ≤ 2 then
          (some (formingResidual p (tickDiff g.time o.onset)
            (distance (p.position o.station) (p.position g.source))), false)
        else (none, false) := by
  obtain ⟨h1, h2, h3, h4, h5⟩ := h
  simp only [formingTest, ho]
  rw [if_neg (by simp [h1, h2]), if_neg (by simp [h3, h4, h5])]
  rfl

/-- The bearing by the signs of the step (R32). -/
theorem bearing_eq {dx dy : Int} {b : Nat} (h1 : 0 ≤ dx → 0 ≤ dy → b = foldIndex dx.natAbs dy.natAbs)
    (h2 : 0 ≤ dx → dy < 0 → b = 8 - foldIndex dx.natAbs dy.natAbs)
    (h3 : dx < 0 → dy < 0 → b = 8 + foldIndex dx.natAbs dy.natAbs)
    (h4 : dx < 0 → 0 ≤ dy → b = (16 - foldIndex dx.natAbs dy.natAbs) % 16) : bearing dx dy = b := by
  unfold bearing
  split_ifs with hx hy hy
  · exact (h1 hx hy).symm
  · exact (h2 hx (Int.not_le.1 hy)).symm
  · exact (h3 (Int.not_le.1 hx) hy).symm
  · exact (h4 (Int.not_le.1 hx) (Int.not_lt.1 hy)).symm

/-- Settles O17. -/
theorem formingFrontPassesByWindowSpeedAndBearing : Obligations.FormingFrontPassesByWindowSpeedAndBearing := by
  intro p f g o dt dx dy d fold b ho hdt hd hdx hdy hfold h1 h2 h3 h4
  subst hfold
  refine ⟨fun hst hsrc => ?_, slotTest_of_excluded⟩
  have hb : bearing dx dy = b := bearing_eq h1 h2 h3 h4
  rw [slotTest_of_forming hsrc hst]
  have hdt' : tickDiff g.time o.onset = dt := hdt.symm
  by_cases hstep : StepPasses p dt d
  case neg =>
    rw [formingTest_of_fails ho (by rw [hdt', ← hd]; exact hstep)]
    refine ⟨fun r => ⟨nofun, ?_⟩, ⟨nofun, ?_⟩⟩
    · rintro ⟨c1, c2, c3, c4, c5, -, -⟩
      exact absurd ⟨c1, c2, c3, c4, c5⟩ hstep
    · rintro ⟨c1, c2, c3, c4, c5, -⟩
      exact absurd ⟨c1, c2, c3, c4, c5⟩ hstep
  case pos =>
    rw [formingTest_of_passes ho (by rw [hdt', ← hd]; exact hstep), hdt', ← hd, ← hdx, ← hdy, hb]
    obtain ⟨c1, c2, c3, c4, c5⟩ := hstep
    cases hsec : o.sector with
    | none => simp [c1, c2, c3, c4, c5, formingResidual, eq_comm]
    | some s0 =>
      have hbear : (∀ s, some s0 = some s →
          min ((b + 32 - (s.val + 8)) % 16) (16 - (b + 32 - (s.val + 8)) % 16) ≤ 2) ↔ downwindDifference b s0 ≤ 2 :=
        ⟨fun h => h s0 rfl, fun h s hs => Option.some.inj hs ▸ h⟩
      simp only [hbear]
      by_cases hdown : downwindDifference b s0 ≤ 2
      · simp [c1, c2, c3, c4, c5, hdown, formingResidual, eq_comm]
      · simp [hdown]

/-! ### The first slot with the least key -/

/-- What a pass over the slots keeps: the least key so far, with the lowest slot that has it. -/
def FirstLeast {α : Type} [LinearOrder α] (key : Front → Option α) (slots : List Front) : Option (α × Nat) → Prop
  | none => ∀ f ∈ slots, key f = none
  | some (r, i) => (∃ f, slots[i]? = some f ∧ key f = some r)
      ∧ ∀ (j : Nat) (f' : Front) (r' : α), slots[j]? = some f' → key f' = some r' → r < r' ∨ r = r' ∧ i ≤ j

/-- The pass takes the next slot when its key is smaller. -/
def pickLess {α : Type} [LinearOrder α] (best : Option (α × Nat)) (r : Option α) (i : Nat) : Option (α × Nat) :=
  match best, r with
  | some (a, j), some b => if b < a then some (b, i) else some (a, j)
  | none, some b => some (b, i)
  | best, none => best

theorem getElem?_snoc {f f' : Front} {done : List Front} {j : Nat} :
    (done ++ [f])[j]? = some f' ↔ done[j]? = some f' ∨ j = done.length ∧ f' = f := by
  rcases Nat.lt_trichotomy j done.length with h | h | h
  · simp [List.getElem?_append_left h, Nat.ne_of_lt h]
  · subst h
    simp [eq_comm]
  · simp [List.getElem?_append_right (Nat.le_of_lt h), Nat.ne_of_gt h, List.getElem?_eq_none (Nat.le_of_lt h),
      List.getElem?_eq_none (l := [f]) (i := j - done.length) (by simp; omega)]

theorem FirstLeast.snoc {α : Type} [LinearOrder α] {key : Front → Option α} {done : List Front}
    {best : Option (α × Nat)} (h : FirstLeast key done best) (f : Front) :
    FirstLeast key (done ++ [f]) (pickLess best (key f) done.length) := by
  have hlt : ∀ {j : Nat} {f' : Front}, done[j]? = some f' → j < done.length := fun hj =>
    (List.getElem?_eq_some_iff.1 hj).1
  cases best with
  | none =>
    cases hk : key f with
    | none =>
      intro f' hf'
      rcases List.mem_append.1 hf' with hf' | hf'
      · exact h f' hf'
      · rw [List.mem_singleton.1 hf', hk]
    | some b =>
      refine ⟨⟨f, by simp, hk⟩, fun j f' r' hj hr' => ?_⟩
      rcases getElem?_snoc.1 hj with hj | ⟨rfl, rfl⟩
      · rw [h f' (List.mem_of_getElem? hj)] at hr'
        cases hr'
      · rw [hk] at hr'
        exact .inr ⟨Option.some.inj hr', Nat.le_refl _⟩
  | some x =>
    obtain ⟨a, i⟩ := x
    obtain ⟨⟨f0, hf0, hk0⟩, hleast⟩ := h
    have hkeep : ∀ b, key f = some b → ¬b < a → FirstLeast key (done ++ [f]) (some (a, i)) := fun b hb hnot => by
      refine ⟨⟨f0, getElem?_snoc.2 (.inl hf0), hk0⟩, fun j f' r' hj hr' => ?_⟩
      rcases getElem?_snoc.1 hj with hj | ⟨rfl, rfl⟩
      · exact hleast j f' r' hj hr'
      · rw [hb, Option.some.injEq] at hr'
        subst hr'
        rcases lt_or_eq_of_le (not_lt.1 hnot) with hab | hab
        · exact .inl hab
        · exact .inr ⟨hab, Nat.le_of_lt (hlt hf0)⟩
    cases hk : key f with
    | none =>
      refine ⟨⟨f0, getElem?_snoc.2 (.inl hf0), hk0⟩, fun j f' r' hj hr' => ?_⟩
      rcases getElem?_snoc.1 hj with hj | ⟨rfl, rfl⟩
      · exact hleast j f' r' hj hr'
      · rw [hk] at hr'
        cases hr'
    | some b =>
      by_cases hba : b < a
      · rw [pickLess, if_pos hba]
        refine ⟨⟨f, by simp, hk⟩, fun j f' r' hj hr' => ?_⟩
        rcases getElem?_snoc.1 hj with hj | ⟨rfl, rfl⟩
        · rcases hleast j f' r' hj hr' with hlt' | ⟨heq, -⟩
          · exact .inl (lt_trans hba hlt')
          · exact .inl (heq ▸ hba)
        · rw [hk] at hr'
          exact .inr ⟨Option.some.inj hr', Nat.le_refl _⟩
      · rw [pickLess, if_neg hba]
        exact hkeep b hk hba

/-- The slot that such a pass ends with. -/
theorem FirstLeast.iff {α : Type} [LinearOrder α] {key : Front → Option α} {slots : List Front}
    {best : Option (α × Nat)} (h : FirstLeast key slots best) (i : Nat) : best.map (·.2) = some i
      ↔ ∃ f r, slots[i]? = some f ∧ key f = some r
        ∧ ∀ j f' r', slots[j]? = some f' → key f' = some r' → r < r' ∨ r = r' ∧ i ≤ j := by
  cases best with
  | none =>
    refine ⟨nofun, ?_⟩
    rintro ⟨f, r, hf, hr, -⟩
    rw [h f (List.mem_of_getElem? hf)] at hr
    cases hr
  | some x =>
    obtain ⟨a, k⟩ := x
    obtain ⟨⟨f0, hf0, hk0⟩, hleast⟩ := h
    simp only [Option.map_some, Option.some.injEq]
    constructor
    · rintro rfl
      exact ⟨f0, a, hf0, hk0, hleast⟩
    · rintro ⟨f, r, hf, hr, hmin⟩
      rcases hleast i f r hf hr with h1 | ⟨h1, h2⟩
      · rcases hmin k f0 a hf0 hk0 with h3 | ⟨h3, -⟩
        · exact absurd h3 (lt_asymm h1)
        · exact absurd h3 (ne_of_gt h1)
      · rcases hmin k f0 a hf0 hk0 with h3 | ⟨-, h4⟩
        · exact absurd h1 (ne_of_gt h3)
        · omega

theorem FirstLeast.none_iff {α : Type} [LinearOrder α] {key : Front → Option α} {slots : List Front}
    {best : Option (α × Nat)} (h : FirstLeast key slots best) :
    best.map (·.2) = none ↔ ∀ f ∈ slots, key f = none := by
  cases best with
  | none => exact ⟨fun _ => h, fun _ => rfl⟩
  | some x =>
    obtain ⟨⟨f0, hf0, hk0⟩, -⟩ := h
    refine ⟨nofun, fun hall => ?_⟩
    rw [hall f0 (List.mem_of_getElem? hf0)] at hk0
    cases hk0

/-! ### The slot of a placement (R34) -/

theorem bestSlotFrom_firstLeast (p : Profile) (g : Sighting) {best : Option (Nat × Nat)} {done : List Front}
    (h : FirstLeast (fun f => (slotTest p g f).1) done best) (rest : List Front) :
    FirstLeast (fun f => (slotTest p g f).1) (done ++ rest) (bestSlotFrom p g best done.length rest) := by
  induction rest generalizing done best with
  | nil => simpa [bestSlotFrom] using h
  | cons f rest ih =>
    have hpick : better best (slotTest p g f).1 done.length = pickLess best (slotTest p g f).1 done.length := by
      cases best <;> cases (slotTest p g f).1 <;> rfl
    have hnext := ih (h.snoc f)
    rw [List.length_append, List.length_singleton, List.append_assoc, List.singleton_append] at hnext
    rw [bestSlotFrom, hpick]
    exact hnext

theorem bestSlot_firstLeast (p : Profile) (g : Sighting) (slots : List Front) :
    FirstLeast (fun f => (slotTest p g f).1) slots (bestSlotFrom p g none 0 slots) :=
  bestSlotFrom_firstLeast p g (done := []) (best := none) (fun _ hf => absurd hf List.not_mem_nil) slots

/-- Settles O18. -/
theorem placementTakesTheNearestLowestCandidate : Obligations.PlacementTakesTheNearestLowestCandidate :=
  fun p g slots => ⟨(bestSlot_firstLeast p g slots).iff, (bestSlot_firstLeast p g slots).none_iff⟩

/-! ### The slot of a new front (R8, R9) -/

/-- The key by which the oldest DECAYING slot is the least. -/
def youthKey (now : Tick) (f : Front) : Option Int := if f.state = .decaying then some (-f.age now) else none

/-- An age held, as the key by which the pass is the least. -/
def youthOf (best : Option (Int × Nat)) : Option (Int × Nat) := best.map fun x => (-x.1, x.2)

theorem youthOf_older (now : Tick) (best : Option (Int × Nat)) (i : Nat) (f : Front) :
    youthOf (older now best i f) = pickLess (youthOf best) (youthKey now f) i := by
  unfold older youthKey
  split
  · cases best with
    | none => rfl
    | some x =>
      by_cases h : x.1 < f.age now
      · simp [youthOf, pickLess, h]
      · simp [youthOf, pickLess, h]
  · cases best <;> rfl

theorem oldestFrom_firstLeast (now : Tick) {best : Option (Int × Nat)} {done : List Front}
    (h : FirstLeast (youthKey now) done (youthOf best)) (rest : List Front) :
    FirstLeast (youthKey now) (done ++ rest) (youthOf (oldestFrom now best done.length rest)) := by
  induction rest generalizing done best with
  | nil => simpa [oldestFrom] using h
  | cons f rest ih =>
    have hnext := ih (best := older now best done.length f) (by rw [youthOf_older]; exact h.snoc f)
    rw [List.length_append, List.length_singleton, List.append_assoc, List.singleton_append] at hnext
    exact hnext

theorem evictable_eq (now : Tick) (slots : List Front) :
    evictable now slots = (youthOf (oldestFrom now none 0 slots)).map (·.2) := by
  rw [evictable, youthOf, Option.map_map]
  rfl

theorem evictable_firstLeast (now : Tick) (slots : List Front) :
    FirstLeast (youthKey now) slots (youthOf (oldestFrom now none 0 slots)) :=
  oldestFrom_firstLeast now (done := []) (best := none) (fun _ hf => absurd hf List.not_mem_nil) slots

theorem youthKey_eq_some {now : Tick} {f : Front} {r : Int} :
    youthKey now f = some r ↔ f.state = .decaying ∧ -(now - f.newest).toInt = r := by
  simp [youthKey, Front.age, tickDiff]

theorem slotForNew_of_free {now : Tick} {slots : List Front} {i : Nat} (hi : ∃ f, slots[i]? = some f ∧ f.state = .free)
    (hleast : ∀ j f', slots[j]? = some f' → f'.state = .free → i ≤ j) : slotForNew now slots = some i := by
  obtain ⟨f, hf, hfree⟩ := hi
  obtain ⟨hlt, rfl⟩ := List.getElem?_eq_some_iff.1 hf
  have hlow : lowestFree slots = some i := by
    rw [lowestFree, List.findIdx?_eq_some_iff_getElem]
    refine ⟨hlt, by simp [hfree], fun j hj hfj => ?_⟩
    have := hleast j slots[j] (List.getElem?_eq_getElem (by omega)) (by simpa using hfj)
    omega
  simp [slotForNew, hlow]

theorem slotForNew_of_full {now : Tick} {slots : List Front} (h : ∀ f ∈ slots, f.state ≠ .free) :
    slotForNew now slots = evictable now slots := by
  have hlow : lowestFree slots = none := by
    rw [lowestFree, List.findIdx?_eq_none_iff]
    exact fun f hf => by simp [h f hf]
  simp [slotForNew, hlow]

/-! ### The id of a new front (R10) -/

/-- An occupied slot carries the id. -/
def idTaken (slots : List Front) (id : Byte) : Bool := slots.any (fun f => f.occupied && f.id == id)

theorem idTaken_iff (slots : List Front) (id : Byte) :
    idTaken slots id = true ↔ ∃ f ∈ slots, f.state ≠ .free ∧ f.id = id := by
  simp [idTaken, Front.occupied]

/-- The count stops at the first id that is not taken, or runs out. -/
theorem firstFreeId_spec (slots : List Front) (n : Nat) (id : Byte) : ∃ k ≤ n,
    firstFreeId n id slots = idAfter^[k] id ∧ (∀ j < k, idTaken slots (idAfter^[j] id) = true)
      ∧ (k < n → idTaken slots (idAfter^[k] id) = false) := by
  induction n generalizing id with
  | zero => exact ⟨0, Nat.le_refl 0, rfl, nofun, nofun⟩
  | succ n ih =>
    cases htaken : idTaken slots id with
    | false =>
      exact ⟨0, Nat.zero_le _, if_neg (by rw [show slots.any _ = _ from htaken]; exact Bool.false_ne_true), nofun,
        fun _ => htaken⟩
    | true =>
      obtain ⟨k, hk, heq, hbefore, hafter⟩ := ih (idAfter id)
      refine ⟨k + 1, Nat.succ_le_succ hk, ?_, fun j hj => ?_, fun hlt => ?_⟩
      · exact (if_pos htaken).trans heq
      · cases j with
        | zero => exact htaken
        | succ j => exact hbefore j (Nat.lt_of_succ_lt_succ hj)
      · exact hafter (Nat.lt_of_succ_lt_succ hlt)

/-- The ids count around 1 to 255. -/
theorem idAfter_iterate_toNat {next : Byte} (h : next ≠ 0) (j : Nat) :
    (idAfter^[j] next).toNat = 1 + (next.toNat - 1 + j) % 255 := by
  have hpos : next.toNat ≠ 0 := fun h0 => h (BitVec.eq_of_toNat_eq h0)
  induction j with
  | zero => have := next.isLt; simp only [Function.iterate_zero, id_eq]; omega
  | succ j ih =>
    rw [Function.iterate_succ_apply', idAfter]
    split
    next hmax =>
      rw [hmax] at ih
      change 255 = _ at ih
      change 1 = _
      omega
    next hne =>
      have hlt : (idAfter^[j] next).toNat ≠ 255 := fun h255 => hne (BitVec.eq_of_toNat_eq h255)
      rw [BitVec.toNat_add, show (1 : Byte).toNat = 1 from rfl]
      omega

theorem idAfter_iterate_inj {next : Byte} (h : next ≠ 0) {i j : Nat} (hi : i < 255) (hj : j < 255)
    (heq : idAfter^[i] next = idAfter^[j] next) : i = j := by
  have hnat := congrArg BitVec.toNat heq
  rw [idAfter_iterate_toNat h, idAfter_iterate_toNat h] at hnat
  omega

/-- Nine ids in a row are not all taken by eight fronts. -/
theorem exists_id_not_taken {next : Byte} {slots : List Front} (h : next ≠ 0)
    (hlen : (slots.filter Front.occupied).length ≤ 8) : ∃ k < 9, idTaken slots (idAfter^[k] next) = false := by
  by_contra hall
  push Not at hall
  have hsub : (Finset.range 9).image (fun k => idAfter^[k] next)
      ⊆ ((slots.filter Front.occupied).map Front.id).toFinset := by
    intro id hid
    obtain ⟨k, hk, rfl⟩ := Finset.mem_image.1 hid
    have htaken := hall k (Finset.mem_range.1 hk)
    obtain ⟨f, hf, hocc, hid⟩ := (idTaken_iff _ _).1 (Bool.of_not_eq_false htaken)
    exact List.mem_toFinset.2 (List.mem_map.2 ⟨f, List.mem_filter.2 ⟨hf, by simpa [Front.occupied] using hocc⟩, hid⟩)
  have hcard := Finset.card_le_card hsub
  rw [Finset.card_image_of_injOn fun i hi j hj heq =>
      idAfter_iterate_inj h (by simp at hi; omega) (by simp at hj; omega) heq,
    Finset.card_range] at hcard
  have := List.toFinset_card_le ((slots.filter Front.occupied).map Front.id)
  rw [List.length_map] at this
  omega

/-- Settles O20. -/
theorem newFrontTakesTheRightSlotAndAFreeId : Obligations.NewFrontTakesTheRightSlotAndAFreeId := by
  refine ⟨fun now slots => ⟨fun i => slotForNew_of_free, fun hfull => ?_⟩, fun next slots hnext hlen => ?_⟩
  · have hleast := evictable_firstLeast now slots
    rw [slotForNew_of_full hfull, evictable_eq]
    refine ⟨fun i => (hleast.iff i).trans ⟨?_, ?_⟩, fun hnone => hleast.none_iff.2 fun f hf => if_neg (hnone f hf)⟩
    · rintro ⟨f, r, hf, hr, hmin⟩
      obtain ⟨hst, rfl⟩ := youthKey_eq_some.1 hr
      refine ⟨f, hf, hst, fun j f' hj hst' => ?_⟩
      have := hmin j f' _ hj (youthKey_eq_some.2 ⟨hst', rfl⟩)
      omega
    · rintro ⟨f, hf, hst, hmin⟩
      refine ⟨f, _, hf, youthKey_eq_some.2 ⟨hst, rfl⟩, fun j f' r' hj hr' => ?_⟩
      obtain ⟨hst', rfl⟩ := youthKey_eq_some.1 hr'
      have := hmin j f' hj hst'
      omega
  · obtain ⟨k, hk, heq, hbefore, hafter⟩ := firstFreeId_spec slots 9 next
    obtain ⟨m, hm, hfree⟩ := exists_id_not_taken hnext hlen
    have hkm : k ≤ m := by
      by_contra hgt
      have := hbefore m (by omega)
      rw [hfree] at this
      cases this
    have hassign : assignId next slots = idAfter^[k] next := heq
    refine ⟨?_, fun f hf hocc hid => ?_, k, by omega, hassign, fun j hj => (idTaken_iff _ _).1 (hbefore j hj)⟩
    · intro h0
      have := idAfter_iterate_toNat hnext k
      rw [← hassign, h0] at this
      simp at this
      omega
    · have htaken := (idTaken_iff slots (assignId next slots)).2 ⟨f, hf, hocc, hid⟩
      rw [hassign, hafter (by omega)] at htaken
      cases htaken

end Sys2Proof.Machine
end

section
/-! PROOFS. The sighting steps: an ONSET that joins a front, one that makes a front or none, and a SUBSIDE (O19, O21 and
O22). -/

namespace Sys2Proof.Machine

/-! ### Events of reports -/

/-- Reports raise EXCEPTION, bit 2, or nothing. -/
def EventsAtMostException (s u : State) : Prop :=
  u.panel.events = s.panel.events ∨ u.panel.events = s.panel.events ||| 4

theorem EventsAtMostException.refl (s : State) : EventsAtMostException s s := .inl rfl

theorem EventsAtMostException.trans {s u v : State} (h1 : EventsAtMostException s u) (h2 : EventsAtMostException u v) :
    EventsAtMostException s v := by
  unfold EventsAtMostException at *
  rcases h1 with h1 | h1 <;> rcases h2 with h2 | h2 <;> rw [h2, h1]
  · exact .inl rfl
  · exact .inr rfl
  · exact .inr rfl
  · exact .inr (by rw [BitVec.or_assoc, BitVec.or_self])

theorem report_events (ctx : ExcContext) (s : State) (x : ExcReport) : EventsAtMostException s (report ctx s x) := by
  unfold EventsAtMostException report
  cases s.excEnabled x.code && !s.reportDisable
  · exact .inl rfl
  · exact .inr rfl

theorem reportAll_events (ctx : ExcContext) (xs : List ExcReport) (s : State) :
    EventsAtMostException s (reportAll ctx xs s) := by
  induction xs generalizing s with
  | nil => exact .refl s
  | cons x xs ih => exact (report_events ctx s x).trans (ih _)

theorem reportBearings_events (g : Sighting) (label : Word16) (xs : List (Nat × Byte)) (s : State) :
    EventsAtMostException s (xs.foldl (reportBearing g label) s) := by
  induction xs generalizing s with
  | nil => exact .refl s
  | cons x xs ih => exact (report_events _ s _).trans (ih _)

/-! ### A sighting step that no overrun stops -/

/-- The state after a sighting step whose effects stand in `v` (R26). -/
def State.afterStep (s : State) (l : Label) (rest : List Sighting) (v : State) : State :=
  { s with
    table := v.table
    fusion := { s.fusion with fusing := some { l with sightings := rest } }
    exc := v.exc
    counters := v.counters
    panel := { s.panel with events := v.panel.events }
    line := { s.line with openFresh := false } }

theorem execSightingStepEnd_running {s : State} {l : Label} {g : Sighting} {rest : List Sighting}
    (h0 : s.resetHeld = false) (hm : s.mode.runs = true) (hl : s.fusion.fusing = some l) (hs : l.sightings = g :: rest)
    (hstop : s.fusion.stopping = false) :
    exec .sightingStepEnd s = .next (s.afterStep l rest (applySighting g l.number l.now s)) := by
  refine (execSightingStepEnd_of_head h0 hm hl hs).trans (congrArg _ ?_)
  have hnot : (dropHead l (applySighting g l.number l.now s)).lullReady = false := lullReady_of_fusing rfl
  rw [sightingStep_of_running hstop, finish_of_not_ready hnot]
  have hdrop : l.sightings.drop 1 = rest := by rw [hs]; rfl
  have hpanel := congrArg State.panel (applySighting_frame g l.number l.now s)
  apply State.ext_fields
  case panel => exact hpanel
  all_goals simp [State.afterStep, hdrop]

/-- The bearing reports of an ONSET, made before it is placed (R32). -/
def State.bearingsReported (s : State) (g : Sighting) (label : Word16) : State :=
  (unsetBearings s.profile g s.table.slots).foldl (reportBearing g label) s

theorem bearingsReported_frame (s : State) (g : Sighting) (label : Word16) : s.bearingsReported g label = { s with
    exc := (s.bearingsReported g label).exc
    counters := s.counters.withDisabled (s.bearingsReported g label).counters
    panel := { s.panel with events := (s.bearingsReported g label).panel.events } } := reportBearings_frame _ _ _ _

theorem applySighting_of_onset {g : Sighting} (hk : g.kind = .onset) (label : Word16) (now : Tick) (s : State) :
    applySighting g label now s = placeOnset g label now (s.bearingsReported g label) := by
  simp [applySighting, hk, applyOnset, State.bearingsReported]

theorem bearingsReported_table (s : State) (g : Sighting) (label : Word16) :
    (s.bearingsReported g label).table = s.table := by rw [bearingsReported_frame]

theorem bearingsReported_profile (s : State) (g : Sighting) (label : Word16) :
    (s.bearingsReported g label).profile = s.profile := by rw [bearingsReported_frame]; rfl

/-- The reports of a record that a slot takes, and the record in the table. -/
theorem placeOnset_of_candidate {g : Sighting} {s : State} {i : Nat} {f : Front} (label : Word16) (now : Tick)
    (hbest : bestSlot s.profile g s.table.slots = some i) (hf : s.table.slots[i]? = some f) :
    placeOnset g label now s = writeSlot g label i (placeInFront s.profile f g) s := by simp [placeOnset, hbest, hf]

theorem placeOnset_of_new {g : Sighting} {s : State} {i : Nat} (label : Word16) {now : Tick}
    (hbest : bestSlot s.profile g s.table.slots = none) (hi : slotForNew now s.table.slots = some i) :
    placeOnset g label now s = createFront g label i s := by simp [placeOnset, hbest, hi]

theorem placeOnset_of_none {g : Sighting} {s : State} (label : Word16) {now : Tick}
    (hbest : bestSlot s.profile g s.table.slots = none) (hi : slotForNew now s.table.slots = none) :
    placeOnset g label now s
      = { s with counters := { s.counters with unplaced := satInc s.counters.unplaced } } := by
  simp [placeOnset, hbest, hi]

/-! ### Placement in a front (R34) -/

theorem promote_state (f : Front) :
    (promote f).state = if f.state = .forming ∧ (promote f).valid = true then .tracked else f.state := by
  unfold promote
  split_ifs <;> simp_all

theorem placeInFront_state (p : Profile) (f : Front) (g : Sighting) : (placeInFront p f g).1.state
    = if f.state = .forming ∧ (placeInFront p f g).1.valid = true then .tracked else f.state := by
  have h := promote_state (reestimate p { f with track := trimTrack (insertEntry g.toEntry f.track) }).1
  have hstate : (reestimate p { f with track := trimTrack (insertEntry g.toEntry f.track) }).1.state = f.state := by
    rw [reestimate_keeps]
  rw [hstate] at h
  exact h

theorem placeInFront_velocity (p : Profile) (f : Front) (g : Sighting) :
    ((placeInFront p f g).1.vx, (placeInFront p f g).1.vy, (placeInFront p f g).1.valid, (placeInFront p f g).1.stalled)
      = (let v := (reestimate p { f with track := (placeInFront p f g).1.track }).1; (v.vx, v.vy, v.valid, v.stalled)) := by
  rw [(placeInFront_derived p f g (placeInFront p f g).1 rfl).1]
  simp only [placeInFront, recompute]
  rw [promote_keeps]

theorem placeInFront_id (p : Profile) (f : Front) (g : Sighting) : (placeInFront p f g).1.id = f.id := by
  simp only [placeInFront, recompute]
  rw [promote_keeps, reestimate_keeps]

/-- The reports of a placement, over those of the bearings, change what reports change. -/
theorem reportAll_bearings_frame (ctx : ExcContext) (xs : List ExcReport) (s : State) (g : Sighting) (label : Word16) :
    reportAll ctx xs (s.bearingsReported g label) = { s with
      exc := (reportAll ctx xs (s.bearingsReported g label)).exc
      counters := s.counters.withDisabled (reportAll ctx xs (s.bearingsReported g label)).counters
      panel := { s.panel with events := (reportAll ctx xs (s.bearingsReported g label)).panel.events } } := by
  have h1 := reportAll_frame ctx xs (s.bearingsReported g label)
  have h2 := bearingsReported_frame s g label
  have hcounters := congrArg State.counters h2
  have hpanel := congrArg State.panel h2
  apply State.ext_fields
  case counters => exact (congrArg State.counters h1).trans (by rw [hcounters]; rfl)
  case panel => exact (congrArg State.panel h1).trans (by rw [hpanel])
  case exc => rfl
  all_goals
    rw [h1, h2]

theorem bearingsReported_eq (s : State) (g : Sighting) (label : Word16) : s.bearingsReported g label
    = (s.table.slots.zipIdx.filter (fun x => (slotTest s.profile g x.1).2)).foldl
      (fun (v : State) (x : Front × Nat) => report ⟨x.1.id, x.2, some (g.source, g.sid), label⟩ v ⟨.unsetOperand, 1⟩) s :=
  reportBearings_eq _ _ _ _ _

/-- Settles O19. -/
theorem onsetJoinsItsFront : Obligations.OnsetJoinsItsFront := by
  intro s l g rest i f h0 hm hl hs hstop hk hbest hf
  have hplace : applySighting g l.number l.now s
      = writeSlot g l.number i (placeInFront s.profile f g) (s.bearingsReported g l.number) := by
    have hp := bearingsReported_profile s g l.number
    have ht := bearingsReported_table s g l.number
    rw [applySighting_of_onset hk, placeOnset_of_candidate l.number l.now (by rw [hp, ht]; exact hbest)
      (by rw [ht]; exact hf), hp]
  obtain ⟨htrack, hderived, hreports⟩ := placeInFront_derived s.profile f g (placeInFront s.profile f g).1 rfl
  have hframe := reportAll_bearings_frame ⟨f.id, i, some (g.source, g.sid), l.number⟩ (placeInFront s.profile f g).2 s g
    l.number
  refine ⟨_, reportAll ⟨f.id, i, some (g.source, g.sid), l.number⟩ (placeInFront s.profile f g).2
    (s.bearingsReported g l.number), (placeInFront s.profile f g).1, execSightingStepEnd_running h0 hm hl hs hstop, ?_⟩
  rw [hplace, writeSlot_eq, placeInFront_id, bearingsReported_table]
  refine ⟨rfl, rfl, rfl, htrack, placeInFront_velocity _ _ _, placeInFront_state _ _ _, hderived, rfl,
    ?reports, ?same, (congrArg State.counters hframe).trans rfl, ?events, rfl⟩
  case reports => rw [hreports, unsetReport_eq, unsetReport_eq, bearingsReported_eq]; rfl
  case same => exact congrArg (fun p => (_, _, p)) (congrArg State.panel hframe).symm
  case events => exact (reportBearings_events g l.number _ s).trans (reportAll_events _ _ _)

/-! ### A new front (R8, R10, R35) -/

/-- The derived fields of a front that a single ONSET makes, and its reports. -/
theorem recompute_created (p : Profile) (id : Byte) (g : Sighting) : recompute p (Front.created id g)
    = ({ state := .forming, id := id, stalled := false, valid := false, vx := 0, vy := 0
         track := [⟨g.source, g.sid, g.time, g.peak, g.sector, g.dust, false⟩]
         dustI := g.dust, peakI := g.peak, arrivals := List.replicate p.zones.length .none },
      (if g.dust = none then [(⟨.unsetOperand, 2⟩ : ExcReport)] else [])
        ++ (if g.peak = none then [(⟨.unsetOperand, 3⟩ : ExcReport)] else [])) := by
  have harrivals : arrivalList p (Front.created id g) = (List.replicate p.zones.length .none, []) := by
    simp [arrivalList, Front.created]
  rw [recompute, harrivals, unsetReport_eq, unsetReport_eq]
  simp [Front.created, Sighting.toEntry, dustIntensity, peakIntensity, maxDust, maxPeak]
  rfl

/-- The state after a front is created: its reports, and its record in the table. -/
theorem createFront_eq (g : Sighting) (label : Word16) (i : Nat) (s : State) {id : Byte}
    (hid : id = assignId s.table.nextId (s.table.slots.set i (Front.empty s.profile.zoneCount))) :
    createFront g label i s = { reportAll ⟨id, i, some (g.source, g.sid), label⟩
        (recompute s.profile (Front.created id g)).2 s with
      table := { s.table with
        nextId := idAfter id, slots := s.table.slots.set i (recompute s.profile (Front.created id g)).1 } } := by
  subst hid
  simp only [createFront, emptiedSlot]
  rw [writeSlot_eq, reportAll_withTable]
  rfl

/-- Settles O21. -/
theorem onsetWithoutCandidateCreatesAFrontOrIsUnplaced : Obligations.OnsetWithoutCandidateCreatesAFrontOrIsUnplaced := by
  intro s l g rest h0 hm hl hs hstop hk hbest
  have hp := bearingsReported_profile s g l.number
  have ht := bearingsReported_table s g l.number
  have hbest' : bestSlot (s.bearingsReported g l.number).profile g (s.bearingsReported g l.number).table.slots = none := by
    rw [hp, ht]
    exact hbest
  refine ⟨s.bearingsReported g l.number, bearingsReported_eq s g l.number, fun i id hi hid => ?new, fun hnone => ?none⟩
  case new =>
    have hcreate : applySighting g l.number l.now s = _ := (applySighting_of_onset hk l.number l.now s).trans
      ((placeOnset_of_new l.number hbest' (by rw [ht]; exact hi)).trans
        (createFront_eq g l.number i _ (id := id) (by rw [ht, hp]; exact hid)))
    have hframe := reportAll_bearings_frame ⟨id, i, some (g.source, g.sid), l.number⟩
      (recompute s.profile (Front.created id g)).2 s g l.number
    refine ⟨_, execSightingStepEnd_running h0 hm hl hs hstop, ?_⟩
    rw [hcreate, hp, ht]
    refine ⟨?_, rfl, ⟨reportAll ⟨id, i, some (g.source, g.sid), l.number⟩ (recompute s.profile (Front.created id g)).2
      (s.bearingsReported g l.number), ?_, ?_⟩, ?_, rfl⟩
    · rw [recompute_created]
      rfl
    · rw [recompute_created]
      rfl
    · exact congrArg (fun q => (_, _, q)) (congrArg State.panel hframe).symm
    · have hunplaced := congrArg (fun u : State => u.counters.unplaced) hframe
      exact hunplaced
  case none =>
    have happly : applySighting g l.number l.now s = _ := (applySighting_of_onset hk l.number l.now s).trans
      (placeOnset_of_none l.number hbest' (by rw [ht]; exact hnone))
    have hframe := bearingsReported_frame s g l.number
    refine ⟨_, execSightingStepEnd_running h0 hm hl hs hstop, ?_⟩
    rw [happly]
    refine ⟨ht, rfl, congrArg (fun q => (_, q)) (congrArg State.panel hframe).symm, ?_, ?_⟩
    · have hunplaced : (s.bearingsReported g l.number).counters.unplaced = s.counters.unplaced :=
        (congrArg (fun u : State => u.counters.unplaced) hframe).trans rfl
      simp only [State.afterStep, hunplaced]
    · simp only [State.afterStep, ht]

/-! ### A SUBSIDE (R5, R36) -/

theorem hasEntry_iff (f : Front) (i : Station) (sid : Byte) : f.hasEntry i sid = true
    ↔ f.state ≠ .free ∧ ∃ e ∈ f.track, e.station = i ∧ e.sid = sid := by
  simp [Front.hasEntry, Front.occupied]

theorem matchingSlot_of_lowest {i : Station} {sid : Byte} {slots : List Front} {k : Nat} {f : Front}
    (hk : slots[k]? = some f) (hf : f.hasEntry i sid = true)
    (hlow : ∀ j f', j < k → slots[j]? = some f' → f'.hasEntry i sid = false) : matchingSlot i sid slots = some k := by
  obtain ⟨hlt, rfl⟩ := List.getElem?_eq_some_iff.1 hk
  rw [matchingSlot, List.findIdx?_eq_some_iff_getElem]
  refine ⟨hlt, hf, fun j hj => ?_⟩
  rw [hlow j slots[j] hj (List.getElem?_eq_getElem (by omega))]
  exact Bool.false_ne_true

theorem applySighting_of_subside {g : Sighting} {ref : Byte} (hk : g.kind = .subside) (href : g.onsetRef = some ref)
    {s : State} {i : Nat} {f : Front} (label : Word16) (now : Tick)
    (hmatch : matchingSlot g.source ref s.table.slots = some i) (hf : s.table.slots[i]? = some f) :
    applySighting g label now s = writeSlot g label i (subsideFront s.profile g.source ref f) s := by
  simp [applySighting, hk, applySubside, href, hmatch, hf]

theorem applySighting_of_unmatched {g : Sighting} {ref : Byte} (hk : g.kind = .subside) (href : g.onsetRef = some ref)
    {s : State} (label : Word16) (now : Tick) (hmatch : matchingSlot g.source ref s.table.slots = none) :
    applySighting g label now s
      = { s with counters := { s.counters with subsideUnmatched := satInc s.counters.subsideUnmatched } } := by
  simp [applySighting, hk, applySubside, href, hmatch]

theorem settleSubsided_eq (f : Front) : settleSubsided f = { f with
    state := if (f.state = .forming ∨ f.state = .tracked) ∧ ∀ e ∈ f.track, e.subsided = true then .decaying
      else f.state } := by
  unfold settleSubsided
  simp only [List.all_eq_true]
  split_ifs <;> rfl

/-- The derived fields and the reports of a recomputation, by the front that it leaves. -/
theorem recompute_derived (p : Profile) (f : Front) :
    ((recompute p f).1.dustI, (recompute p f).1.peakI, (recompute p f).1.arrivals)
        = (dustIntensity (recompute p f).1.track, peakIntensity (recompute p f).1.track, (arrivalList p (recompute p f).1).1)
      ∧ (recompute p f).2 = (if (recompute p f).1.dustI = none then [(⟨.unsetOperand, 2⟩ : ExcReport)] else [])
        ++ (if (recompute p f).1.peakI = none then [(⟨.unsetOperand, 3⟩ : ExcReport)] else [])
        ++ (arrivalList p (recompute p f).1).2 := by
  refine ⟨rfl, ?_⟩
  rw [← unsetReport_eq, ← unsetReport_eq]
  rfl

/-- What a SUBSIDE leaves of its front. -/
theorem subsideFront_fields (p : Profile) (i : Station) (sid : Byte) (f : Front) :
    (subsideFront p i sid f).1.track = markEntries i sid f.track
      ∧ (subsideFront p i sid f).1.state = (if (f.state = .forming ∨ f.state = .tracked)
          ∧ ∀ e ∈ markEntries i sid f.track, e.subsided = true then .decaying else f.state)
      ∧ (subsideFront p i sid f).1.id = f.id ∧ (subsideFront p i sid f).1.vx = f.vx
      ∧ (subsideFront p i sid f).1.vy = f.vy ∧ (subsideFront p i sid f).1.valid = f.valid
      ∧ (subsideFront p i sid f).1.stalled = f.stalled := by
  simp only [subsideFront, recompute]
  rw [settleSubsided_eq]
  exact ⟨rfl, rfl, rfl, rfl, rfl, rfl, rfl⟩

/-- Settles O22. -/
theorem subsideMarksTheLowestMatchingEntry : Obligations.SubsideMarksTheLowestMatchingEntry := by
  intro s l g rest ref h0 hm hl hs hstop hk href
  refine ⟨fun i f hf hocc hentry hlow => ?matched, fun hnone => ?unmatched⟩
  case matched =>
    have hmatch : matchingSlot g.source ref s.table.slots = some i :=
      matchingSlot_of_lowest hf ((hasEntry_iff _ _ _).2 ⟨hocc, hentry⟩) fun j f' hj hf' => by
        rw [← Bool.not_eq_true, hasEntry_iff]
        rintro ⟨hocc', e, he, hmatch⟩
        exact hlow j f' hj hf' hocc' e he hmatch
    obtain ⟨hderived, hreports⟩ := recompute_derived s.profile
      (settleSubsided { f with track := markEntries g.source ref f.track })
    obtain ⟨htrack, hstate, hid, hvx, hvy, hvalid, hstalled⟩ := subsideFront_fields s.profile g.source ref f
    have hframe := reportAll_frame ⟨f.id, i, some (g.source, g.sid), l.number⟩
      (subsideFront s.profile g.source ref f).2 s
    have hunmatched := congrArg (fun u : State => u.counters.subsideUnmatched) hframe
    refine ⟨_, reportAll ⟨f.id, i, some (g.source, g.sid), l.number⟩ (subsideFront s.profile g.source ref f).2 s,
      (subsideFront s.profile g.source ref f).1, execSightingStepEnd_running h0 hm hl hs hstop, ?_⟩
    rw [applySighting_of_subside hk href l.number l.now hmatch hf, writeSlot_eq, hid, hvx, hvy, hvalid, hstalled]
    refine ⟨rfl, htrack, ?_, rfl, rfl, hderived, congrArg (fun xs => reportAll _ xs s) hreports,
      congrArg (fun q => (_, _, q)) (congrArg State.panel hframe).symm, hunmatched, rfl⟩
    rw [htrack]
    exact hstate
  case unmatched =>
    have hmatch : matchingSlot g.source ref s.table.slots = none := by
      rw [matchingSlot, List.findIdx?_eq_none_iff]
      intro f hf
      rw [← Bool.not_eq_true, hasEntry_iff]
      rintro ⟨hocc, e, he, hmatch⟩
      exact hnone f hf hocc e he hmatch
    rw [execSightingStepEnd_running h0 hm hl hs hstop, applySighting_of_unmatched hk href l.number l.now hmatch]
    rfl

end Sys2Proof.Machine
end

section
/-! PROOFS. The closing step, a fusion that an overrun stops, and equal tables under equal fusions (O23 and O24). -/

namespace Sys2Proof.Machine

/-! ### Aging (R12) -/

theorem ageFront_of_free {p : Profile} {now : Tick} {f : Front} (h : f.state = .free) : ageFront p now f = f := by
  simp [ageFront, h]

theorem ageFront_of_young {p : Profile} {now : Tick} {f : Front} (h : f.age now ≤ p.decayT) : ageFront p now f = f := by
  have h1 : ¬f.age now > (p.decayT + p.releaseT : Nat) := by omega
  have h2 : ¬(f.age now > p.decayT ∧ f.state ≠ .decaying) := fun h2 => by omega
  rw [ageFront, if_neg h1, if_neg h2, ite_self]

theorem ageFront_of_old {p : Profile} {now : Tick} {f : Front} (hst : f.state ≠ .free) (h : p.decayT < f.age now)
    (hr : f.age now ≤ p.decayT + p.releaseT) : ageFront p now f = { f with state := .decaying } := by
  have h1 : ¬f.age now > (p.decayT + p.releaseT : Nat) := by omega
  rw [ageFront, if_neg hst, if_neg h1]
  split_ifs with hd
  · rfl
  · have hdecaying : f.state = .decaying := by tauto
    rw [← hdecaying]

theorem ageFront_of_released {p : Profile} {now : Tick} {f : Front} (hst : f.state ≠ .free)
    (h : (p.decayT + p.releaseT : Int) < f.age now) : ageFront p now f = Front.empty p.zoneCount := by
  have h1 : f.age now > (p.decayT + p.releaseT : Nat) := by omega
  rw [ageFront, if_neg hst, if_pos h1]

/-! ### The closing step (R37) -/

theorem execClosingStepEnd_of_empty {s : State} {l : Label} (h0 : s.resetHeld = false) (hm : s.mode.runs = true)
    (hl : s.fusion.fusing = some l) (hs : l.sightings = []) :
    exec .closingStepEnd s = .next (finish (takeUp (closingStep l s))) := by
  show execClosingStepEnd s = _
  simp [execClosingStepEnd, runs_of_mode h0 hm, hl, hs]

theorem takeUp_closingStep {s : State} (l : Label) (hh : s.agree.staging.held = false) :
    takeUp (closingStep l s) = startWaiting (closingStep l s) := takeUp_of_free hh

/-- The state before a closing step's evaluation differs from the one with the aged table in what an evaluation does not
read. -/
theorem closingStep_evaluated (l : Label) (s : State) :
    (closingStep l s).warn = (evaluate { s with table := agedTable s.profile s.table l }).warn
      ∧ (closingStep l s).panel = (evaluate { s with table := agedTable s.profile s.table l }).panel := ⟨rfl, rfl⟩

theorem closing_step_ages_and_stores {s : State} {l : Label} (h0 : s.resetHeld = false) (hm : s.mode.runs = true)
    (hl : s.fusion.fusing = some l) (hs : l.sightings = []) (hh : s.agree.staging.held = false) :
    ∃ t, exec .closingStepEnd s = .next t
      ∧ t.table = agedTable s.profile s.table l
      ∧ t.agree = { s.agree with
          history := storePair s.agree.history l.number (tableDigest t.table.slots t.table.nextId) }
      ∧ t.fusion = { s.fusion with fusing := s.fusion.waiting, waiting := none, stopping := false }
      ∧ t.warn.zones = (evaluate { s with table := t.table }).warn.zones
      ∧ t.panel.events = (evaluate { s with table := t.table }).panel.events
      ∧ (t.mode = s.mode → t.warn = (evaluate { s with table := t.table }).warn)
      ∧ t = { s with
          mode := t.mode, table := t.table, fusion := t.fusion, line := t.line, agree := t.agree, time := t.time
          warn := t.warn, panel := { s.panel with events := t.panel.events }, freeCount := t.freeCount } := by
  refine ⟨_, (execClosingStepEnd_of_empty h0 hm hl hs).trans (by rw [takeUp_closingStep l hh]), ?_⟩
  have htable : (finish (startWaiting (closingStep l s))).table = agedTable s.profile s.table l := by simp
  obtain ⟨hwarn, hpanel⟩ := closingStep_evaluated l s
  rw [htable]
  refine ⟨rfl, by simp; rfl, by simp, ?_, ?_, fun hmode => ?_, ?_⟩
  · rw [finish_zones, startWaiting_warn, hwarn]
  · rw [finish_panel, startWaiting_panel, hpanel]
  · exact (finishAt_warn _ _ hmode).trans hwarn
  · have hp : (finish (startWaiting (closingStep l s))).panel
        = { s.panel with events := (finish (startWaiting (closingStep l s))).panel.events } := by
      rw [finish_panel, startWaiting_panel, hpanel, evaluate_panel]
    apply State.ext_fields
    case panel => exact hp
    all_goals simp

/-! ### The table after a sighting step -/

/-- The Front Table after a sighting step: it depends on the profile and the table alone (R29 to R36). -/
def tableAfter (p : Profile) (g : Sighting) (now : Tick) (t : FrontTable) : FrontTable :=
  match g.kind with
  | .onset =>
    match bestSlot p g t.slots with
    | some i =>
      match t.slots[i]? with
      | some f => { t with slots := t.slots.set i (placeInFront p f g).1 }
      | none => t
    | none =>
      match slotForNew now t.slots with
      | some i =>
        let id := assignId t.nextId (emptiedSlot p i t.slots)
        { t with nextId := idAfter id, slots := t.slots.set i (recompute p (Front.created id g)).1 }
      | none => t
  | .subside =>
    match matchingSlot g.source (g.onsetRef.getD 0) t.slots with
    | some i =>
      match t.slots[i]? with
      | some f => { t with slots := t.slots.set i (subsideFront p g.source (g.onsetRef.getD 0) f).1 }
      | none => t
    | none => t

theorem writeSlot_table (g : Sighting) (label : Word16) (i : Nat) (r : Front × List ExcReport) (s : State) :
    (writeSlot g label i r s).table = { s.table with slots := s.table.slots.set i r.1 } := by rw [writeSlot_frame]

theorem placeOnset_table (g : Sighting) (label : Word16) (now : Tick) (s : State) (hk : g.kind = .onset) :
    (placeOnset g label now s).table = tableAfter s.profile g now s.table := by
  simp only [tableAfter, hk]
  unfold placeOnset createFront
  split
  · split <;> simp [writeSlot_table, *]
  · split <;> simp [writeSlot_table, *]

theorem applySubside_table (g : Sighting) (label : Word16) (now : Tick) (s : State) (hk : g.kind = .subside) :
    (applySubside g label s).table = tableAfter s.profile g now s.table := by
  simp only [tableAfter, hk]
  unfold applySubside
  split
  · split <;> simp only [writeSlot_table, *]
  · simp only [*]

theorem applySighting_table (g : Sighting) (label : Word16) (now : Tick) (s : State) :
    (applySighting g label now s).table = tableAfter s.profile g now s.table := by
  cases hk : g.kind with
  | onset =>
    rw [applySighting_of_onset hk, placeOnset_table _ _ _ _ hk, bearingsReported_profile, bearingsReported_table]
  | subside =>
    rw [← applySubside_table g label now s hk]
    simp [applySighting, hk]

theorem tableAfter_fusedThrough (p : Profile) (g : Sighting) (now : Tick) (t : FrontTable) :
    (tableAfter p g now t).fusedThrough = t.fusedThrough := by
  unfold tableAfter
  repeat' split
  all_goals rfl

theorem writeSlot_transfersInstalled (g : Sighting) (label : Word16) (i : Nat) (r : Front × List ExcReport) (s : State) :
    (writeSlot g label i r s).counters.transfersInstalled = s.counters.transfersInstalled := by
  rw [writeSlot_frame]
  rfl

theorem bearingsReported_transfersInstalled (s : State) (g : Sighting) (label : Word16) :
    (s.bearingsReported g label).counters.transfersInstalled = s.counters.transfersInstalled := by
  rw [bearingsReported_frame]
  rfl

/-- A sighting step installs no transfer. -/
theorem applySighting_transfersInstalled (g : Sighting) (label : Word16) (now : Tick) (s : State) :
    (applySighting g label now s).counters.transfersInstalled = s.counters.transfersInstalled := by
  cases hk : g.kind with
  | onset =>
    rw [applySighting_of_onset hk]
    unfold placeOnset createFront
    split
    · split <;> simp only [writeSlot_transfersInstalled, bearingsReported_transfersInstalled]
    · split <;> simp only [writeSlot_transfersInstalled, bearingsReported_transfersInstalled]
  | subside =>
    simp only [applySighting, hk]
    unfold applySubside
    split
    · split <;> simp only [writeSlot_transfersInstalled]
    · rfl

/-! ### A fusion that an overrun stops (R40) -/

theorem execSightingStepEnd_stopped {s : State} {l : Label} {g : Sighting} {rest : List Sighting}
    (h0 : s.resetHeld = false) (hm : s.mode.runs = true) (hl : s.fusion.fusing = some l) (hs : l.sightings = g :: rest)
    (hstop : s.fusion.stopping = true) : exec .sightingStepEnd s
      = .next (finish (takeUp (dropHead l (applySighting g l.number l.now s)))) :=
  (execSightingStepEnd_of_head h0 hm hl hs).trans (by rw [sightingStep_of_stopped hstop])

theorem install_evaluated (s : State) :
    (install s).warn = (evaluate { s with table := s.agree.staging.table s.profile }).warn := by
  unfold install
  simp only
  rw [reportSlots_frame]
  exact evaluate_warn_congr rfl rfl rfl rfl rfl rfl

theorem install_transfersInstalled (s : State) :
    (install s).counters.transfersInstalled = satInc s.counters.transfersInstalled := by
  unfold install
  simp only
  rw [reportSlots_frame]
  rfl

theorem install_agree (s : State) : (install s).agree = { s.agree with
    history := storePair s.agree.history s.agree.staging.label s.agree.staging.digest
    installed := true
    staging := Staging.cleared s.agree.staging.discarded } := by rw [install_frame]

theorem install_fusion (s : State) :
    (install s).fusion = { s.fusion with fusing := none, waiting := none, stopping := false } := by rw [install_frame]

theorem install_table (s : State) : (install s).table = s.agree.staging.table s.profile := by rw [install_frame]

/-- Settles O23. -/
theorem closingStepAgesTheTableAndStoresItsDigest : Obligations.ClosingStepAgesTheTableAndStoresItsDigest := by
  refine ⟨fun s l h0 hm hl hs hh => ?closing, fun s t0 l g rest h0 hm hl hs hstop ht0 => ?stopped⟩
  case closing =>
    obtain ⟨t, hexec, htable, hagree, hfusion, hzones, hevents, hwarn, hframe⟩ :=
      closing_step_ages_and_stores h0 hm hl hs hh
    refine ⟨t, hexec, by rw [htable]; rfl, by rw [htable]; rfl, by rw [htable]; simp [agedTable], fun i f hf => ?_, hagree,
      by rw [hagree]; exact historyOf_storePair _ _ _, hfusion, hzones, hevents, hwarn, hframe⟩
    refine ⟨ageFront s.profile l.now f, ?_, ageFront_of_free, fun hst => ⟨ageFront_of_young, ageFront_of_old hst,
      ageFront_of_released hst⟩⟩
    rw [htable]
    simp [agedTable, hf]
  case stopped =>
    rw [execSightingStepEnd_running (s := { s with fusion := { s.fusion with stopping := false } }) h0 hm hl hs rfl,
      applySighting_withFusion] at ht0
    obtain rfl := Host.Outcome.next.inj ht0
    have hv := applySighting_frame g l.number l.now s
    have hp : (applySighting g l.number l.now s).profile = s.profile := by simp [State.profile]
    refine ⟨_, execSightingStepEnd_stopped h0 hm hl hs hstop, fun hh => ?_, fun hh => ?_⟩
    · rw [takeUp_of_free (by simp [hh])]
      refine ⟨?_, ?_, by simp, ?_, ?_⟩
      · have hpanel := congrArg State.panel hv
        simp only [finish_table, finish_exc, finish_counters, finish_panel, startWaiting_table, startWaiting_exc,
          startWaiting_counters, startWaiting_panel, dropHead_table, dropHead_exc, dropHead_counters, dropHead_panel]
        exact congrArg (fun q => (_, _, _, q)) hpanel
      · rw [finish_table, startWaiting_table, dropHead_table, applySighting_table, tableAfter_fusedThrough]
      · rw [finish_zones, startWaiting_warn, dropHead_warn, applySighting_warn]
      · apply State.ext_fields <;> simp
    · have hheld : (dropHead l (applySighting g l.number l.now s)).agree.staging.held = true := by simp [hh]
      have hagree : (dropHead l (applySighting g l.number l.now s)).agree = s.agree := by simp
      have hprofile : (dropHead l (applySighting g l.number l.now s)).profile = s.profile := hp
      have hwarn : (install (dropHead l (applySighting g l.number l.now s))).warn
          = (evaluate { s with table := s.agree.staging.table s.profile }).warn := by
        rw [install_evaluated, hagree, hprofile]
        exact evaluate_warn_congr (by simp) rfl (by simp) (by simp) (by simp) (by simp)
      rw [takeUp_of_held hheld]
      have htable : (finish (install (dropHead l (applySighting g l.number l.now s)))).table
          = s.agree.staging.table s.profile := by rw [finish_table, install_table, hagree, hprofile]
      rw [htable]
      refine ⟨rfl, ?_, ?_, ?_, ?_, ?_, fun hmode => ?_, ?_⟩
      · rw [finish_agree, install_agree]
      · rw [finish_agree, install_agree]
        rfl
      · rw [finish_agree, install_agree, hagree]
        exact historyOf_storePair _ _ _
      · rw [finish_fusion, install_fusion]
        simp
      · rw [finish_zones, hwarn]
      · rw [← hwarn]
        exact finishAt_warn _ _ (hmode.trans (by simp))
      · rw [finish_counters, install_transfersInstalled, dropHead_counters, applySighting_transfersInstalled]

/-! ### Equal tables under equal fusions (R13) -/

theorem sightingStep_table {s : State} {l : Label} {g : Sighting} (hh : s.agree.staging.held = false) :
    (finish (sightingStep l g s)).table = tableAfter s.profile g l.now s.table := by
  cases hstop : s.fusion.stopping with
  | false => rw [sightingStep_of_running hstop, finish_table, dropHead_table, applySighting_table]
  | true =>
    rw [sightingStep_of_stopped hstop, takeUp_of_free (by simp [hh]), finish_table, startWaiting_table, dropHead_table,
      applySighting_table]

theorem sightingStep_fusion {s : State} {l : Label} {g : Sighting} (hh : s.agree.staging.held = false) :
    (finish (sightingStep l g s)).fusion = if s.fusion.stopping then
        { s.fusion with fusing := s.fusion.waiting, waiting := none, stopping := false }
      else { s.fusion with fusing := some { l with sightings := l.sightings.drop 1 } } := by
  cases hstop : s.fusion.stopping with
  | false => simp [sightingStep_of_running hstop, hstop]
  | true => simp [sightingStep_of_stopped hstop, takeUp_of_free, hh, hstop]

/-- With no sighting left, a sighting step's end is taken for nothing. -/
theorem execSightingStepEnd_of_idle {s : State} (h : ∀ l, s.fusion.fusing = some l → l.sightings = []) :
    exec .sightingStepEnd s = .next s := by
  show execSightingStepEnd s = _
  unfold execSightingStepEnd
  split
  next l _ hl => simp [h l hl]
  next => rfl

theorem execClosingStepEnd_of_busy {s : State} (h : ∀ l, s.fusion.fusing = some l → l.sightings ≠ []) :
    exec .closingStepEnd s = .next s := by
  show execClosingStepEnd s = _
  unfold execClosingStepEnd
  split
  next l _ hl => simp [h l hl]
  next => rfl

/-- Settles O24: a step's table depends on the profile, the table and the FUSING label alone. -/
theorem equalTablesStayEqualUnderFusion : Obligations.EqualTablesStayEqualUnderFusion := by
  intro c s1 s2 t1 t2 hc h01 hm1 h02 hm2 hp ht hf hh1 hh2 he1 he2
  have hkept : t1 = s1 → t2 = s2 → t1.table = t2.table ∧ (t1.fusion.fusing, t1.fusion.waiting, t1.fusion.stopping)
      = (t2.fusion.fusing, t2.fusion.waiting, t2.fusion.stopping) := by
    rintro rfl rfl
    exact ⟨ht, hf⟩
  simp only [Prod.mk.injEq] at hf
  obtain ⟨hfusing, hwaiting, hstopping⟩ := hf
  rcases hc with rfl | rfl
  · refine and_assoc.1 ⟨?_, fun l hc => Instr.noConfusion hc⟩
    by_cases hidle : ∀ l, s1.fusion.fusing = some l → l.sightings = []
    · rw [execSightingStepEnd_of_idle hidle] at he1
      rw [execSightingStepEnd_of_idle (hfusing ▸ hidle)] at he2
      exact hkept (Host.Outcome.next.inj he1).symm (Host.Outcome.next.inj he2).symm
    · push Not at hidle
      obtain ⟨l, hl, hne⟩ := hidle
      obtain ⟨g, rest, hs⟩ := List.exists_cons_of_ne_nil hne
      rw [show exec .sightingStepEnd s1 = _ from execSightingStepEnd_of_head h01 hm1 hl hs] at he1
      rw [show exec .sightingStepEnd s2 = _ from execSightingStepEnd_of_head h02 hm2 (hfusing ▸ hl) hs] at he2
      obtain rfl := Host.Outcome.next.inj he1
      obtain rfl := Host.Outcome.next.inj he2
      rw [sightingStep_table hh1, sightingStep_table hh2, sightingStep_fusion hh1, sightingStep_fusion hh2, hp, ht,
        hstopping, hwaiting]
      refine ⟨rfl, ?_⟩
      split <;> simp [hwaiting, hstopping]
  · by_cases hbusy : ∀ l, s1.fusion.fusing = some l → l.sightings ≠ []
    · rw [execClosingStepEnd_of_busy hbusy] at he1
      rw [execClosingStepEnd_of_busy (hfusing ▸ hbusy)] at he2
      obtain ⟨h1, h2⟩ := hkept (Host.Outcome.next.inj he1).symm (Host.Outcome.next.inj he2).symm
      exact ⟨h1, h2, fun l _ hl hs => absurd hs (hbusy l hl)⟩
    · push Not at hbusy
      obtain ⟨l, hl, hs⟩ := hbusy
      obtain ⟨u1, hu1, htable1, hagree1, hfusion1, -⟩ := closing_step_ages_and_stores h01 hm1 hl hs hh1
      obtain ⟨u2, hu2, htable2, hagree2, hfusion2, -⟩ := closing_step_ages_and_stores h02 hm2 (hfusing ▸ hl) hs hh2
      obtain rfl := Host.Outcome.next.inj (hu1.symm.trans he1)
      obtain rfl := Host.Outcome.next.inj (hu2.symm.trans he2)
      have htable : u1.table = u2.table := by rw [htable1, htable2, hp, ht]
      refine ⟨htable, by rw [hfusion1, hfusion2]; simp [hwaiting], fun l' _ hl' _ => ?_⟩
      obtain rfl := Option.some.inj (hl.symm.trans hl')
      rw [hagree1, hagree2, htable]
      exact (historyOf_storePair _ _ _).trans (historyOf_storePair _ _ _).symm

end Sys2Proof.Machine
end

section
/-! PROOFS. The Estimator's arithmetic and the order of a report and a clear (O25, O26 and O28). -/

namespace Sys2Proof.Machine

/-! ### The integer square root (R43) -/

/-- A digit of recursion for each base-4 digit of the operand suffices. -/
theorem isqrtFuel_spec (k : Nat) {n : Nat} (h : n < 4 ^ k) :
    isqrtFuel k n * isqrtFuel k n ≤ n ∧ n < (isqrtFuel k n + 1) * (isqrtFuel k n + 1) := by
  induction k generalizing n with
  | zero =>
    have h0 : n = 0 := by simpa using h
    subst h0
    exact ⟨Nat.le_refl 0, Nat.one_pos⟩
  | succ k ih =>
    by_cases h0 : n = 0
    · subst h0
      exact ⟨Nat.le_refl 0, Nat.one_pos⟩
    · obtain ⟨hlow, hhigh⟩ := ih (n := n / 4) (by rw [Nat.pow_succ] at h; omega)
      simp only [isqrtFuel, if_neg h0]
      generalize isqrtFuel k (n / 4) = r at hlow hhigh ⊢
      have hdiv : 4 * (n / 4) ≤ n ∧ n < 4 * (n / 4) + 4 := by omega
      split_ifs with hstep
      · refine ⟨hstep, ?_⟩
        nlinarith
      · refine ⟨by nlinarith, Nat.not_le.1 hstep⟩

theorem isqrt_spec (n : Nat) : isqrt n * isqrt n ≤ n ∧ n < (isqrt n + 1) * (isqrt n + 1) := by
  refine isqrtFuel_spec _ (Nat.lt_of_lt_of_le Nat.lt_log2_self ?_)
  exact Nat.pow_le_pow_left (by decide) _

/-- A component is at most the magnitude. -/
theorem natAbs_le_isqrt (x y : Int) : x.natAbs ≤ isqrt (x * x + y * y).toNat := by
  have hspec := (isqrt_spec (x * x + y * y).toNat).2
  generalize isqrt (x * x + y * y).toNat = m at hspec ⊢
  have hx : x.natAbs * x.natAbs ≤ (x * x + y * y).toNat := by
    have h1 : ((x.natAbs * x.natAbs : Nat) : Int) = x * x := by rw [Int.natAbs_mul_self]
    have h2 : 0 ≤ y * y := mul_self_nonneg y
    omega
  by_contra hlt
  have : (m + 1) * (m + 1) ≤ x.natAbs * x.natAbs := Nat.mul_le_mul (by omega) (by omega)
  omega

/-! ### Velocity (R46 to R49) -/

/-- A component scaled to the ceiling stays within it. -/
theorem natAbs_scaled_le {x : Int} {c m : Nat} (hx : x.natAbs ≤ m) : ((x * c).tdiv m).natAbs ≤ c := by
  rw [Int.natAbs_tdiv, Int.natAbs_mul, Int.natAbs_natCast, Int.natAbs_natCast]
  exact Nat.div_le_of_le_mul (Nat.mul_le_mul_right c hx)

section
variable {p : Profile} {f : Front} {a l : Entry} {dt vx0 vy0 : Int} {m0 : Nat}

/-- The re-estimate by its branches. -/
theorem reestimate_eq (ha : f.track.head? = some a) (hl : f.track.getLast? = some l) (hdt : dt = (l.onset - a.onset).toInt)
    (hx : vx0 = (((p.position l.station).1 - (p.position a.station).1 : Int) * 10000).tdiv dt)
    (hy : vy0 = (((p.position l.station).2 - (p.position a.station).2 : Int) * 10000).tdiv dt)
    (hm : m0 = isqrt (vx0 * vx0 + vy0 * vy0).toNat) : reestimate p f
      = if dt ≤ 0 then (f, [⟨.zeroInterval, distance (p.position a.station) (p.position l.station)⟩])
        else if m0 > p.speedCeiling then
          ({ f with
             vx := (vx0 * p.speedCeiling).tdiv m0, vy := (vy0 * p.speedCeiling).tdiv m0, valid := true, stalled := false },
            [⟨.speedCeiling, m0⟩])
        else if m0 < p.speedFloor then
          ({ f with vx := 0, vy := 0, valid := true, stalled := true }, [⟨.speedFloor, m0⟩])
        else ({ f with vx := vx0, vy := vy0, valid := true, stalled := false }, []) := by
  subst hm hx hy hdt
  simp only [reestimate, ha, hl]
  rfl

end

/-- Settles O25. -/
theorem velocityIsMeasuredAndLimited : Obligations.VelocityIsMeasuredAndLimited := by
  refine ⟨isqrt_spec, fun p f a l dt vx0 vy0 m0 ha hl hdt hx hy hm => ?_⟩
  rw [reestimate_eq ha hl hdt hx hy hm]
  refine ⟨fun h => if_pos (by omega), fun h hc => ?_, fun h hc hf => ?_, fun h hc hf => ?_, fun h hc => ?_⟩
  · rw [if_neg (by omega), if_pos hc]
  · rw [if_neg (by omega), if_neg (by omega), if_pos hf]
  · rw [if_neg (by omega), if_neg (by omega), if_neg (by omega)]
  · have hvx : vx0.natAbs ≤ m0 := hm ▸ natAbs_le_isqrt vx0 vy0
    have hvy : vy0.natAbs ≤ m0 := by
      rw [hm, add_comm]
      exact natAbs_le_isqrt vy0 vx0
    rw [if_neg (by omega)]
    split_ifs with habove hbelow
    · have h1 := natAbs_scaled_le (c := p.speedCeiling) hvx
      have h2 := natAbs_scaled_le (c := p.speedCeiling) hvy
      dsimp only
      omega
    · dsimp only
      omega
    · dsimp only
      omega

/-! ### Arrivals (R50 to R52) -/

theorem arrivalList_of_unusable {p : Profile} {f : Front} (h : f.valid = false ∨ f.stalled = true) :
    arrivalList p f = (List.replicate p.zones.length .none, []) := by
  have hu : (!f.valid || f.stalled) = true := by rcases h with h | h <;> simp [h]
  rw [arrivalList, if_pos hu, List.map_const']

theorem arrivalList_of_usable {p : Profile} {f : Front} {l : Entry} (hl : f.track.getLast? = some l)
    (hv : f.valid = true) (hs : f.stalled = false) : arrivalList p f
      = ((p.zones.map (arrivalAt p f l)).map (·.1), ((p.zones.map (arrivalAt p f l)).map (·.2)).flatten) := by
  simp [arrivalList, hl, hv, hs]

/-- The lead as R52 characterises it. -/
theorem leadTicks_eq {r : Rounding} {metres closing lead : Nat}
    (h : r = .early ∧ lead = metres * 10000 / closing
      ∨ r = .nearest ∧ 2 * lead * closing ≤ 2 * (metres * 10000) + closing
          ∧ 2 * (metres * 10000) + closing < 2 * (lead + 1) * closing) : leadTicks r metres closing = lead := by
  rcases h with ⟨rfl, rfl⟩ | ⟨rfl, hlow, hhigh⟩
  · rfl
  · refine Nat.div_eq_of_lt_le ?_ ?_
    · calc lead * (2 * closing) = 2 * lead * closing := by ring
        _ ≤ _ := hlow
    · calc 2 * (metres * 10000) + closing < 2 * (lead + 1) * closing := hhigh
        _ = (lead + 1) * (2 * closing) := by ring

/-- Settles O26. -/
theorem arrivalItemsFollowDistanceSpeedAndHorizon : Obligations.ArrivalItemsFollowDistanceSpeedAndHorizon := by
  intro p f l hl
  refine ⟨arrivalList_of_unusable, fun hv hs => ?_⟩
  rw [arrivalList_of_usable hl hv hs]
  refine ⟨by simp, fun i z dx dy dist hz hdx hdy hdist => ?_⟩
  have hitem : ((p.zones.map (arrivalAt p f l)).map (·.1))[i]? = some (arrivalAt p f l z).1 := by simp [hz]
  rw [hitem]
  have hat : arrivalAt p f l z = if dist ≤ z.radius then (.time l.onset, [])
      else if (dx * f.vx + dy * f.vy).tdiv dist ≤ 0 then (.receding, [])
      else if leadTicks p.rounding (dist - z.radius) ((dx * f.vx + dy * f.vy).tdiv dist).toNat ≤ p.horizonT then
        (.time (l.onset + BitVec.ofNat 32
          (leadTicks p.rounding (dist - z.radius) ((dx * f.vx + dy * f.vy).tdiv dist).toNat)), [])
      else (.beyond, [⟨.horizon,
        (leadTicks p.rounding (dist - z.radius) ((dx * f.vx + dy * f.vy).tdiv dist).toNat : Nat)⟩]) := by
    subst hdist hdx hdy
    rfl
  refine ⟨fun h => by rw [hat, if_pos h], fun h hc => by rw [hat, if_neg (by omega), if_pos hc],
    fun closing lead h hc hpos hlead => ?_⟩
  rw [hc, Int.toNat_natCast, leadTicks_eq hlead, if_neg (by omega), if_neg (by omega)] at hat
  refine ⟨fun hle => by rw [hat, if_pos hle], fun hgt => ?_⟩
  rw [if_neg (by omega)] at hat
  refine ⟨by rw [hat], List.mem_flatten.2 ⟨(arrivalAt p f l z).2, ?_, by rw [hat]; exact List.mem_singleton_self _⟩⟩
  exact List.mem_map.2 ⟨_, List.mem_map.2 ⟨z, List.mem_of_getElem? hz, rfl⟩, rfl⟩

/-! ### A report and a clear (R57, R59, R60) -/

theorem exec_clearException {s : State} (h0 : s.resetHeld = false) (hs : s.serves = true) :
    exec (.clearException []) s = .next { s with
      exc := { s.exc with pending := false, count := 0 }
      panel := { s.panel with incoming := some 2, response := [1] } } := congrArg _ (serve_of_count h0 hs rfl)

theorem report_of_disabled {s : State} {x : ExcReport} (h : s.excEnabled x.code = false) (ctx : ExcContext) :
    report ctx s x = { s with counters := s.counters.incDisabled x.code } := by
  simp [report, h, withEvent]

/-- Settles O28. -/
theorem clearExceptionKeepsTheFieldsInEitherOrder : Obligations.ClearExceptionKeepsTheFieldsInEitherOrder := by
  intro s h0 hs
  refine ⟨exec_clearException h0 hs, fun ctx x t u ht hu => ?_⟩
  rw [exec_clearException h0 hs] at ht
  rw [exec_clearException (s := report ctx s x) h0 hs] at hu
  obtain rfl := Host.Outcome.next.inj ht
  obtain rfl := Host.Outcome.next.inj hu
  refine ⟨fun he => ?_, fun he => report_of_disabled he ctx⟩
  rw [report_of_enabled he, report_of_enabled (s := { s with
    exc := { s.exc with pending := false, count := 0 }
    panel := { s.panel with incoming := some 2, response := [1] } }) he]
  refine ⟨rfl, rfl, fun hd => ?_, fun hd => ?_⟩
  · have hbit : ∀ w : Word16, (withEvent (!s.reportDisable) .exception w).getLsbD 2 = true := fun w => by
      rw [withEvent_getLsbD, hd]
      simp [StatusEvent.bit]
    exact ⟨hbit _, hbit _⟩
  · have hkeep : ∀ w : Word16, withEvent (!s.reportDisable) .exception w = w := fun w => by rw [hd]; rfl
    exact ⟨hkeep _, hkeep _⟩

end Sys2Proof.Machine
end

section
/-! PROOFS. Opening a cycle, the own opportunity and its frames (O29, O31, O32 and O33). -/

namespace Sys2Proof.Machine

theorem awake_of_mode {s : State} (h0 : s.resetHeld = false) (hm : s.mode.awake = true) : s.awake = true := by
  simp [State.awake, h0, hm]

/-! ### The preference (R75, R102, R124, R154) -/

theorem anyOccupied_iff (t : FrontTable) : t.anyOccupied = true ↔ ∃ f ∈ t.slots, f.state ≠ .free := by
  simp [FrontTable.anyOccupied, Front.occupied]

theorem alerting_iff (d : DetectorState) : d.alerting = true
    ↔ d = .gusting ∨ d = .refractory ∨ (∃ k, d = .rising k) ∨ ∃ k, d = .easing k := by
  cases d <;> simp [DetectorState.alerting]

theorem ownAlert_iff (s : State) : s.ownAlert = true
    ↔ (∃ f ∈ s.table.slots, f.state ≠ .free) ∨ (∃ q ∈ s.outbound, q.kind = .onset)
      ∨ s.detector.state = .gusting ∨ s.detector.state = .refractory
      ∨ (∃ k, s.detector.state = .rising k) ∨ ∃ k, s.detector.state = .easing k := by
  simp only [State.ownAlert, Bool.or_eq_true, anyOccupied_iff, alerting_iff, List.any_eq_true, beq_iff_eq, or_assoc]

theorem peerAlert_iff (s : State) : s.peerAlert = true ↔ ∃ i e p, s.roster.entries[i]? = some e ∧ i ≠ s.own.val
    ∧ e.last = some p ∧ p.alert = true ∧ e.takenIn = some s.line.cycle := by
  simp only [State.peerAlert, List.any_eq_true, List.mem_zipIdx_iff_getElem?, Prod.exists, Bool.and_eq_true, bne_iff_ne,
    beq_iff_eq, Option.any_eq_true]
  constructor
  · rintro ⟨e, i, he, ⟨hi, htaken⟩, p, hp, hal⟩
    exact ⟨i, e, p, he, hi, hp, hal, htaken⟩
  · rintro ⟨i, e, p, he, hi, hp, hal, htaken⟩
    exact ⟨e, i, he, ⟨hi, htaken⟩, p, hp, hal⟩

theorem preference_alert_iff (s : State) : s.preference = .alert ↔ s.ownAlert = true ∨ s.peerAlert = true := by
  unfold State.preference
  split <;> simp_all

/-! ### The open timer (R99, R161) -/

theorem exec_openTimerExpiry {s : State} {delay k : Nat} (h0 : s.resetHeld = false)
    (hm : s.mode = .listening ∨ s.mode = .active ∨ s.mode = .resync) (htx : s.line.tx = none)
    (ht : s.line.openTimer = .ms delay k) : exec .openTimerExpiry s = .next (openExpired s) := by
  have hlull : s.openDueInLull = false := by simp [State.openDueInLull, ht]
  have hruns : s.openRuns = true := by
    rcases hm with hm | hm | hm <;> simp [State.openRuns, State.awake, Mode.awake, OpenTimer.runsMs, h0, hm, htx, ht]
  show execOpenTimerExpiry s = _
  simp [execOpenTimerExpiry, hlull, hruns]

theorem exec_receiverQuietWaitEnd {s : State} {b : Bool} (h0 : s.resetHeld = false) (hm : s.mode.awake = true)
    (hrx : s.line.rx = .quietWait b) : exec .receiverQuietWaitEnd s = .next (quietWaitOver b s) := by
  show execReceiverQuietWaitEnd s = _
  simp [execReceiverQuietWaitEnd, awake_of_mode h0 hm, hrx]

/-- Settles O29. -/
theorem timersAndTheReceiverOpenACycle : Obligations.TimersAndTheReceiverOpenACycle := by
  refine ⟨fun s h0 => ⟨fun hm hleft => ?listen, fun delay k hm htx ht => ⟨fun hrx => ?idle, fun hrx => ?busy,
    fun b hrx => ?wait⟩, ?preference⟩, fun s h0 hm => ⟨fun htx hrx => ?start, fun b hrx => ⟨fun htx => ?startWait,
    fun hne => ?waited, fun hheld _ hb => ?skipped, fun hheld _ hb => ?held⟩⟩⟩
  case listen =>
    exact congrArg _ (if_pos ⟨awake_of_mode h0 (by rw [hm]; rfl), hm, hleft⟩)
  case idle =>
    rw [exec_openTimerExpiry h0 hm htx ht, openExpired, hrx]
    rfl
  case busy =>
    rw [exec_openTimerExpiry h0 hm htx ht, openExpired]
    rcases hrx with hrx | ⟨b, hrx⟩ <;> rw [hrx]
  case wait => rw [exec_openTimerExpiry h0 hm htx ht, openExpired, hrx]
  case preference => rw [preference_alert_iff, ownAlert_iff, peerAlert_iff, or_assoc, or_assoc]
  case start =>
    show execFrameStart s = _
    simp [execFrameStart, awake_of_mode h0 hm, htx, hrx]
  case startWait =>
    show execFrameStart s = _
    simp [execFrameStart, awake_of_mode h0 hm, htx, hrx]
  case waited => rw [exec_receiverQuietWaitEnd h0 hm hrx, quietWaitOver, if_neg hne]
  case skipped =>
    rw [exec_receiverQuietWaitEnd h0 hm hrx, quietWaitOver, if_pos hheld, if_pos hb]
    rfl
  case held =>
    rw [exec_receiverQuietWaitEnd h0 hm hrx, quietWaitOver, if_pos hheld, if_neg (by simp [hb])]
    rfl

/-! ### The plan (R101 to R103) -/

theorem meetsResponder_iff (group : List Station) (e : RosterEntry) (i : Nat) : meetsResponder group e i = true
    ↔ e.state = .present ∧ (∃ m ∈ group, m.val = i) ∧ ∀ p, e.last = some p → p.needTable = false := by
  cases h : e.last <;> simp [meetsResponder, h, and_assoc]

theorem requestStands_iff (s : State) : s.requestStands = true ↔ ∃ e ∈ s.roster.entries, ∃ p, e.last = some p
    ∧ p.needTable = true ∧ (e.takenIn = some s.line.cycle ∨ e.takenIn = some (s.line.cycle - 1)) := by
  simp only [State.requestStands, List.any_eq_true, Bool.and_eq_true, Option.any_eq_true, Bool.or_eq_true, beq_iff_eq]
  constructor
  · rintro ⟨e, he, ⟨p, hp, hn⟩, ht⟩
    exact ⟨e, he, p, hp, hn, ht⟩
  · rintro ⟨e, he, p, hp, hn, ht⟩
    exact ⟨e, he, ⟨p, hp, hn⟩, ht⟩

/-- What a station needs to send a transfer (R137, R138). -/
theorem sendsTransfer_iff (s : State) : s.sendsTransfer = true ↔ s.responder = some s.own.val ∧ s.requestStands = true
    ∧ s.agree.state = .agreed ∧ s.table.fusedThrough = some (s.line.cycle - 1) ∧ s.fusion.fusing = none
    ∧ s.agree.staging.held = false := by
  simp [State.sendsTransfer, and_assoc]

theorem occupiedCount_zero_iff (t : FrontTable) : t.occupiedCount = 0 ↔ ∀ f ∈ t.slots, f.state = .free := by
  simp [FrontTable.occupiedCount, Front.occupied]

/-- The frames of a transfer that is sent (R139). -/
theorem transferFrames_of_sends {s : State} {d : Word16} (h : s.sendsTransfer = true)
    (hd : historyOf s.agree.history (s.line.cycle - 1) = some d) : s.transferFrames
      = if s.table.occupiedCount = 0 then [⟨s.line.cycle - 1, d, s.table.nextId, s.table.occupiedCount, none⟩]
        else (s.table.slots.zipIdx.filter (fun x => x.1.occupied)).map (fun x =>
          ⟨s.line.cycle - 1, d, s.table.nextId, s.table.occupiedCount, some (Fin.ofNat 8 x.2, x.1)⟩) := by
  have hfused : s.table.fusedThrough = some (s.line.cycle - 1) := ((sendsTransfer_iff s).1 h).2.2.2.1
  rw [State.transferFrames, if_pos h]
  simp only [State.snapshot, State.snapshotFrame, hfused, Option.getD_some, hd]

theorem fixesPlan_of {s : State} (h0 : s.resetHeld = false) (hm : s.mode = .active)
    (hopp : s.line.opp = .number s.own.val) (hused : s.line.used = false) (hrx : s.line.rx = .idle)
    (htx : s.line.tx = none) : s.fixesPlan = true := by
  simp [State.fixesPlan, State.awake, Mode.awake, h0, hm, hopp, hused, hrx, htx]

/-- Settles O31. -/
theorem planIsFixedAndItsPresenceBegins : Obligations.PlanIsFixedAndItsPresenceBegins := by
  refine ⟨fun s h0 hm hopp hused hrx htx => ?_, fun s ok hok => ?_⟩
  · refine ⟨s.planItems, s.presence, rfl, ?_, rfl, rfl, rfl, fun label d hl hd => ?_, ownAlert_iff s, ?_, rfl, rfl, rfl, rfl,
      rfl⟩
    · show execPlanFix s = _
      rw [execPlanFix, if_pos (fixesPlan_of h0 hm hopp hused hrx htx)]
      simp only [beginNext, hrx, if_true]
      rfl
    · show s.table.fusedThrough.map (fun l => (historyOf s.agree.history l).getD 0) = some d
      simp [hl, hd]
    · simp [State.presence, State.requests]
  · obtain rfl : ok = fun e i => meetsResponder s.agree.group e i = true := by
      funext e i
      rw [eq_iff_iff, hok, meetsResponder_iff]
    refine ⟨?_, fun d hne hd => ⟨fun hfree => ?_, fun hocc => ?_⟩⟩
    · rw [transferFrames_ne_nil, sendsTransfer_iff, responder_eq_some, requestStands_iff]
      simp only [Bool.not_eq_true, and_assoc]
    · rw [transferFrames_of_sends (transferFrames_ne_nil.1 hne) hd, if_pos ((occupiedCount_zero_iff _).2 hfree),
        (occupiedCount_zero_iff _).2 hfree]
    · have hcount : s.table.occupiedCount ≠ 0 := by
        rw [Ne, occupiedCount_zero_iff]
        obtain ⟨f, hf, hst⟩ := hocc
        exact fun hall => hst (hall f hf)
      rw [transferFrames_of_sends (transferFrames_ne_nil.1 hne) hd, if_neg hcount]
      rfl

/-! ### Later frames and repeats (R103, R104) -/

theorem planWaiting_of {s : State} {p : Plan} {w : PlanWait} (h0 : s.resetHeld = false) (hm : s.mode.awake = true)
    (htx : s.line.tx = none) (hp : s.line.plan = some p) (hw : p.wait = w) : s.planWaiting w = some p := by
  simp [State.planWaiting, awake_of_mode h0 hm, htx, hp, hw]

/-- Settles O32. -/
theorem laterFramesBeginOnAnIdleLine : Obligations.LaterFramesBeginOnAnIdleLine := by
  intro s p h0 hm htx hp
  have hnext : p.wait = .nextStart → exec .nextFrameStart s = .next (beginNext p s) := fun hw => by
    show execNextFrameStart s = _
    rw [execNextFrameStart, planWaiting_of h0 hm htx hp hw]
  have hrepeat : p.wait = .repeatStart →
      exec .frameRepeat s = .next (if s.line.rx = .idle then beginFrame p p.current s else abandonPlan s) := fun hw => by
    show execFrameRepeat s = _
    rw [execFrameRepeat, planWaiting_of h0 hm htx hp hw]
  refine ⟨fun g q hw hrx hhead hq => ?_, fun f hw hrx hhead => ?_, fun b hw hrx hb => ?_, fun hw hrx => ?_,
    fun hw hrx => ?_⟩
  · rw [hnext hw, beginNext, if_pos hrx, hhead]
    simp [State.compose, hq, beginFrame]
  · rw [hnext hw, beginNext, if_pos hrx, hhead]
    rfl
  · rw [hrepeat hw, if_pos hrx, hb]
    simp [beginFrame, ← hb]
  · rw [hnext hw, beginNext, if_neg hrx]
    rfl
  · rw [hrepeat hw, if_neg hrx]
    rfl

/-! ### Failed attempts (R104, R105) -/

theorem sendingFrame_of {s : State} {b : Body} {final : Bool} {p : Plan} (h0 : s.resetHeld = false)
    (hm : s.mode.awake = true) (htx : s.line.tx = some ⟨b, final⟩) (hk : b.kind ≠ .mark) (hp : s.line.plan = some p) :
    s.sendingFrame = some (b, final, p) := by
  simp [State.sendingFrame, awake_of_mode h0 hm, htx, hp, hk]

theorem afterDrop_eq (p : Plan) (k : FrameKind) : p.afterDrop k = if k = .transfer ∨ p.items.length ≤ 1 then none
    else some { p with items := p.items.drop 1, current := none, attempts := 0, wait := .nextStart } := by
  unfold Plan.afterDrop Plan.next
  by_cases hk : k = .transfer <;> simp [hk]

/-- Settles O33. -/
theorem echoFailureIsRepeatedThenDropped : Obligations.EchoFailureIsRepeatedThenDropped := by
  intro s b final p h0 hm htx hk hp
  have hexec : exec .echoFail s
      = .next (finish (if p.attempts + 1 < 3 then failAttempt b p s else dropFrame b p (failAttempt b p s))) := by
    show execEchoFail s = _
    rw [execEchoFail, sendingFrame_of h0 hm htx hk hp]
  refine ⟨fun hlt => ?_, fun hge => ?_⟩
  · rw [hexec, if_pos hlt]
    rfl
  · rw [if_neg (Nat.not_lt.2 hge)] at hexec
    refine ⟨_, hexec, ?_, rfl, rfl, rfl, rfl, rfl⟩
    rw [← afterDrop_eq]
    rfl

end Sys2Proof.Machine
end

section
/-! PROOFS. The end of an opportunity by silence, and a frame sent (O30 and O34). -/

namespace Sys2Proof.Machine

/-! ### What the end of an opportunity may change in the Agreement Unit's reach -/

/-- An install counts itself and what its reports count, and raises events alone in the Panel Port. -/
theorem install_counters_panel (s : State) :
    (install s).counters = { s.counters.withDisabled (install s).counters with
        transfersInstalled := (install s).counters.transfersInstalled }
      ∧ (install s).panel = { s.panel with events := (install s).panel.events } := by
  unfold install
  simp only
  rw [reportSlots_frame]
  exact ⟨rfl, rfl⟩

/-- The end of an opportunity keeps the counters but those of transfers and reports, the OPEN label, and the Panel Port but
for its events (R144). -/
structure Settled (s t : State) : Prop where
  counters : t.counters = { s.counters.withDisabled t.counters with
    transfersDiscarded := t.counters.transfersDiscarded, transfersInstalled := t.counters.transfersInstalled }
  openLabel : t.fusion.openLabel = s.fusion.openLabel
  panel : t.panel = { s.panel with events := t.panel.events }

theorem Settled.refl (s : State) : Settled s s := ⟨rfl, rfl, rfl⟩

theorem Settled.install (s : State) : Settled s (install s) := by
  obtain ⟨hcounters, hpanel⟩ := install_counters_panel s
  refine ⟨?_, by rw [install_fusion], hpanel⟩
  have hd : (Machine.install s).counters.transfersDiscarded = s.counters.transfersDiscarded := by rw [hcounters]; rfl
  rw [hd]
  exact hcounters

theorem Settled.settleStaging (s : State) : Settled s (settleStaging s) := by
  have hactive : Settled s (settleActive s) := by
    unfold settleActive
    dsimp only
    split_ifs
    · exact ⟨rfl, rfl, rfl⟩
    · exact ⟨rfl, rfl, rfl⟩
    · exact ⟨rfl, rfl, rfl⟩
    · exact ⟨rfl, rfl, rfl⟩
    · exact .install s
  have hclear : ∀ {u : State}, Settled s u → Settled s (clearDiscarded u) := fun h => ⟨h.counters, h.openLabel, h.panel⟩
  unfold Machine.settleStaging
  split
  · exact hclear hactive
  · exact hclear (.refl s)

theorem Settled.endOpportunity (k : Nat) (s : State) : Settled s (endOpportunity k s) := by
  have h := Settled.settleStaging s
  unfold Machine.endOpportunity
  split <;> exact ⟨h.counters, h.openLabel, h.panel⟩

/-! ### The silence timeout (R97) -/

theorem awake_opensCycle (m : Mode) : m.opensCycle = decide (m = .active ∨ m = .resync) := by cases m <;> rfl

theorem cutOpportunity_counters (k : Nat) (s : State) : (cutOpportunity k s).counters = { s.counters with
    burstCuts := if s.line.oppFrames then satInc s.counters.burstCuts else s.counters.burstCuts } := by
  unfold cutOpportunity
  split <;> rfl

theorem cutOpportunity_reports (k : Nat) (s : State) : ((cutOpportunity k s).trace, (cutOpportunity k s).panel)
    = if s.line.oppFrames then ((offer .burstCut (some (Fin.ofNat 32 k)) none .none s).trace,
        (offer .burstCut (some (Fin.ofNat 32 k)) none .none s).panel) else (s.trace, s.panel) := by
  unfold cutOpportunity
  split <;> rfl

theorem cutOpportunity_panel (k : Nat) (s : State) :
    (cutOpportunity k s).panel = { s.panel with events := (cutOpportunity k s).panel.events } := by
  unfold cutOpportunity
  split <;> rfl

theorem exec_silenceTimeout {s : State} {k : Nat} (h0 : s.resetHeld = false) (hm : s.mode.awake = true)
    (hopp : s.line.opp = .number k) (hs : s.line.silence = true) (htx : s.line.tx = none) :
    exec .silenceTimeout s = .next (finish (endOpportunity k (cutOpportunity k s))) := by
  show execSilenceTimeout s = _
  simp [execSilenceTimeout, awake_of_mode h0 hm, hopp, hs, htx]

theorem endOpportunity_of_next {s : State} {k : Nat} (h : k + 1 < s.profile.stations) :
    endOpportunity k s = beginOpportunity (k + 1) (settleStaging s) := if_pos h

theorem endOpportunity_of_last {s : State} {k : Nat} (h : s.profile.stations ≤ k + 1) :
    endOpportunity k s = endCycle (settleStaging s) := if_neg (Nat.not_lt.2 h)

/-- While an opportunity runs, LULL is not entered. -/
theorem finish_of_number {s : State} {k : Nat} (h : s.line.opp = .number k) :
    finish s = { s with line := { s.line with openFresh := false } } :=
  finish_of_not_ready (lullReady_of_opp (by rw [h]; exact Opp.noConfusion))

/-- A command that does not end in LULL did not enter it. -/
theorem finish_of_not_lull {s : State} (h : (finish s).mode ≠ .lull) :
    finish s = { s with line := { s.line with openFresh := false } } := by
  cases hr : s.lullReady with
  | false => exact finish_of_not_ready hr
  | true => exact absurd (by rw [finish_of_ready hr]; rfl) h

theorem finish_endOpportunity_next {s : State} {k : Nat} (hk : k + 1 < s.profile.stations) :
    (finish (endOpportunity k s)).mode = s.mode ∧ (finish (endOpportunity k s)).line = { s.line with
      opp := .number (k + 1), silence := true, oppFrames := false, plan := none, openFresh := false } := by
  rw [endOpportunity_of_next hk, finish_of_number (k := k + 1) rfl]
  exact ⟨by simp [beginOpportunity], by simp⟩

theorem finish_endOpportunity_last {s : State} {k : Nat} (hk : s.profile.stations ≤ k + 1) :
    (finish (endOpportunity k s)).line.opp = .ended ∧ (finish (endOpportunity k s)).line.silence = false
      ∧ (finish (endOpportunity k s)).line.oppFrames = false ∧ (finish (endOpportunity k s)).line.plan = none
      ∧ ((finish (endOpportunity k s)).mode = s.mode
        ∨ s.mode = .active ∧ (finish (endOpportunity k s)).mode = .lull)
      ∧ ((finish (endOpportunity k s)).mode ≠ .lull → (finish (endOpportunity k s)).line.openTimer
        = if s.mode = .active ∨ s.mode = .resync then
            .ms (s.profile.gapMs (finish (endOpportunity k s)).preference + s.own.val * s.profile.staggerMs) 0
          else .stopped) := by
  have hline : (finish (endOpportunity k s)).line.opp = .ended ∧ (finish (endOpportunity k s)).line.silence = false
      ∧ (finish (endOpportunity k s)).line.oppFrames = false ∧ (finish (endOpportunity k s)).line.plan = none := by
    rw [finish_line, endOpportunity_of_last hk]
    exact ⟨rfl, rfl, rfl, rfl⟩
  obtain ⟨hopp, hsilence, hframes, hplan⟩ := hline
  refine ⟨hopp, hsilence, hframes, hplan, ?_, fun hlull => ?_⟩
  · have hmode : (endOpportunity k s).mode = s.mode := by simp
    rw [← hmode]
    exact finish_mode _
  · rw [finish_of_not_lull hlull, endOpportunity_of_last hk]
    have hmode : (settleStaging s).mode = s.mode := by simp
    have hprof : (settleStaging s).profile = s.profile := by simp [State.profile]
    have hown : (settleStaging s).own = s.own := by simp [State.own]
    show (if (settleStaging s).mode.opensCycle then OpenTimer.ms (settleStaging s).cycleEndDelay 0 else .stopped) = _
    rw [hmode, awake_opensCycle, State.cycleEndDelay, hprof, hown]
    simp only [decide_eq_true_eq]
    rfl

theorem endOpportunity_idle {s : State} (k : Nat) (h : s.agree.staging.active = false ∨ s.agree.staging.held = true) :
    ((endOpportunity k s).trace, (endOpportunity k s).panel) = (s.trace, s.panel)
      ∧ (endOpportunity k s).table = s.table ∧ (endOpportunity k s).fusion = s.fusion
      ∧ (endOpportunity k s).counters = s.counters
      ∧ (endOpportunity k s).agree = { s.agree with staging := { s.agree.staging with discarded := false } } := by
  unfold endOpportunity
  rw [settleStaging_of_idle h]
  split <;> exact ⟨rfl, rfl, rfl, rfl, rfl⟩

theorem endOpportunity_counter (k : Nat) (s : State) :
    ((endOpportunity k s).line.cycle, (endOpportunity k s).line.cadence, (endOpportunity k s).line.used)
      = (s.line.cycle, s.line.cadence, s.line.used) := by
  unfold endOpportunity
  split <;> simp [beginOpportunity, endCycle]

/-- Settles O30. -/
theorem silenceTimeoutEndsTheOpportunity : Obligations.SilenceTimeoutEndsTheOpportunity := by
  intro s k h0 hm hopp hs htx
  have hprofile : (cutOpportunity k s).profile = s.profile := by simp [State.profile]
  have hown : (cutOpportunity k s).own = s.own := by simp [State.own]
  have hagree : (cutOpportunity k s).agree = s.agree := by simp
  have hsettled := Settled.endOpportunity k (cutOpportunity k s)
  have hidle := endOpportunity_idle (s := cutOpportunity k s) k
  rw [hagree] at hidle
  refine ⟨_, exec_silenceTimeout h0 hm hopp hs htx, fun hk => ?next, fun hk => ?last,
    ?cuts, fun hst => ?reports, ?counter, fun hst => ?idle, ?frame⟩
  case next =>
    rw [endOpportunity_of_next (by rw [hprofile]; exact hk), finish_of_number (k := k + 1) rfl]
    exact ⟨by simp, by simp⟩
  case last =>
    obtain ⟨hopp', hsilence, hframes, hplan, hmode, htimer⟩ := finish_endOpportunity_last (hprofile ▸ hk)
    rw [cutOpportunity_mode] at hmode
    refine ⟨hopp', hsilence, hplan, hframes, hmode, fun hlull => (htimer hlull).trans ?_⟩
    rw [cutOpportunity_mode, hprofile, hown]
  case cuts =>
    rw [finish_counters, hsettled.counters, cutOpportunity_counters]
    rfl
  case reports =>
    rw [finish_trace, finish_panel, (hidle hst).1, cutOpportunity_reports]
  case idle =>
    obtain ⟨-, htable, hfusion, -, hagree'⟩ := hidle (.inl hst)
    rw [finish_table, finish_fusion, finish_agree, htable, hfusion, hagree']
    exact ⟨by simp, by simp, rfl⟩
  case counter =>
    rw [finish_line]
    simpa using endOpportunity_counter k (cutOpportunity k s)
  case frame =>
    have hpanel : (finish (endOpportunity k (cutOpportunity k s))).panel = { s.panel with
        events := (finish (endOpportunity k (cutOpportunity k s))).panel.events } := by
      rw [finish_panel, hsettled.panel, cutOpportunity_panel]
    apply State.ext_fields
    case panel => exact hpanel
    all_goals simp

/-! ### A frame sent (R80, R104, R119, R140) -/

theorem exec_frameSent {s : State} {b : Body} {final : Bool} {p : Plan} (h0 : s.resetHeld = false)
    (hm : s.mode.awake = true) (htx : s.line.tx = some ⟨b, final⟩) (hk : b.kind ≠ .mark) (hp : s.line.plan = some p) :
    exec .frameSent s = .next (finish (frameOver final (takeOwn b p (frameOut b p s)))) := by
  show execFrameSent s = _
  rw [execFrameSent, sendingFrame_of h0 hm htx hk hp]

theorem frameOver_final {s : State} {k : Nat} (h : s.line.opp = .number k) : frameOver true s = endOpportunity k s := by
  simp [frameOver, endCurrent, h]

theorem frameOver_more {s : State} {k : Nat} (h : s.line.opp = .number k) :
    frameOver false s = { s with line := { s.line with silence := true, oppFrames := true } } := by
  simp [frameOver, h, Opp.isNumber]

theorem finish_frameOver_more {s : State} {k : Nat} (h : s.line.opp = .number k) : finish (frameOver false s)
    = { s with line := { s.line with silence := true, oppFrames := true, openFresh := false } } := by
  rw [frameOver_more h]
  exact finish_of_number (k := k) h

theorem Settled.frameOver {s : State} {k : Nat} (h : s.line.opp = .number k) (final : Bool) :
    Settled s (frameOver final s) := by
  cases final with
  | false => rw [frameOver_more h]; exact ⟨rfl, rfl, rfl⟩
  | true => rw [frameOver_final h]; exact .endOpportunity k s

/-- Without a staging to settle, the end of a frame leaves what the line does not hold, but for the discarded mark. -/
theorem frameOver_quiet {s : State} {k : Nat} {final : Bool} (h : s.line.opp = .number k)
    (hq : final = false ∨ s.agree.staging.active = false) :
    ((frameOver final s).trace, (frameOver final s).panel) = (s.trace, s.panel)
      ∧ (frameOver final s).table = s.table ∧ (frameOver final s).fusion = s.fusion
      ∧ (frameOver final s).counters = s.counters := by
  cases final with
  | false => rw [frameOver_more h]; exact ⟨rfl, rfl, rfl, rfl⟩
  | true =>
    rw [frameOver_final h]
    obtain ⟨h1, h2, h3, h4, -⟩ := endOpportunity_idle k (.inl (hq.resolve_left Bool.true_eq_false.mp))
    exact ⟨h1, h2, h3, h4⟩

theorem plan_next_eq (p : Plan) : p.next = if p.items.length ≤ 1 then none
    else some { p with items := p.items.drop 1, current := none, attempts := 0, wait := .nextStart } := rfl

/-- An own frame changes no counter but those of refused sightings and transfers sent, and the OPEN label alone of the
Sighting Queue. -/
theorem takeOwn_counters (b : Body) (p : Plan) (s : State) : (takeOwn b p s).counters = { s.counters with
      sightingsRefused := (takeOwn b p s).counters.sightingsRefused
      transfersSent := (takeOwn b p s).counters.transfersSent }
    ∧ (takeOwn b p s).fusion = { s.fusion with openLabel := (takeOwn b p s).fusion.openLabel } := by
  unfold takeOwn addSighting transferSent
  repeat' split
  all_goals exact ⟨rfl, rfl⟩

theorem addSighting_room {s : State} {o : OpenLabel} (g : Sighting) (ho : s.fusion.openLabel = some o)
    (hlen : o.sightings.length < 32) : addSighting g s
      = { s with fusion := { s.fusion with openLabel := some { o with sightings := o.sightings ++ [g] } } } := by
  simp [addSighting, ho, labelLimit, hlen]

theorem addSighting_full {s : State} {o : OpenLabel} (g : Sighting) (ho : s.fusion.openLabel = some o)
    (hlen : 32 ≤ o.sightings.length) : addSighting g s
      = { s with counters := { s.counters with sightingsRefused := satInc s.counters.sightingsRefused } } := by
  simp [addSighting, ho, labelLimit, Nat.not_lt.2 hlen]

/-- Where a sighting goes, by the room in the OPEN label (R21, R22). -/
theorem addSighting_openLabel {s : State} {o : OpenLabel} (g : Sighting) (ho : s.fusion.openLabel = some o) :
    (o.sightings.length < 32 →
      (addSighting g s).fusion.openLabel = some { o with sightings := o.sightings ++ [g] }
      ∧ (addSighting g s).counters.sightingsRefused = s.counters.sightingsRefused)
    ∧ (32 ≤ o.sightings.length → (addSighting g s).fusion.openLabel = some o
      ∧ (addSighting g s).counters.sightingsRefused = satInc s.counters.sightingsRefused) := by
  refine ⟨fun hlen => ?_, fun hlen => ?_⟩
  · rw [addSighting_room g ho hlen]
    exact ⟨rfl, rfl⟩
  · rw [addSighting_full g ho hlen]
    exact ⟨ho, rfl⟩

theorem addSighting_transfersSent (g : Sighting) (s : State) :
    (addSighting g s).counters.transfersSent = s.counters.transfersSent := by
  unfold addSighting
  repeat' split
  all_goals rfl

/-- The last frame of an own transfer is traced (R140). -/
theorem takeOwn_reports {b : Body} (hk : b.kind ≠ .mark) (p : Plan) (s : State) :
    ((takeOwn b p s).trace, (takeOwn b p s).panel) = if b.kind = .transfer ∧ p.items.length ≤ 1 then
        ((offer .transferSent (some s.own) (some .transfer) (.count p.transfers) s).trace,
          (offer .transferSent (some s.own) (some .transfer) (.count p.transfers) s).panel)
      else (s.trace, s.panel) := by
  cases b with
  | mark m => exact absurd rfl hk
  | presence r => rfl
  | sighting g => simp [takeOwn, Body.kind, hear]
  | transfer t =>
    simp only [takeOwn, Body.kind, true_and]
    unfold transferSent
    split <;> rfl

theorem addSighting_closed {s : State} (g : Sighting) (ho : s.fusion.openLabel = none) : addSighting g s = s := by
  simp [addSighting, ho]

/-- A PRESENCE recorded from a station that is heard (R116, R117). -/
theorem record_hear (r : Roster) (i : Station) (p : Presence) (cycle own : Word16) : (r.hear i).record i p cycle own
    = { r with entries := r.entries.modify i.val (fun e => { e with
        heard := true, last := some p, takenIn := some cycle
        profile := if p.profileDigest = own then .same else .mismatch }) } := by
  simp only [Roster.record, Roster.hear, List.modify_modify_eq]
  rfl

/-- Settles O34. -/
theorem sentFrameIsTakenByItsSender : Obligations.SentFrameIsTakenByItsSender := by
  intro s b final p k h0 hm htx hk hp hopp
  generalize hu : takeOwn b p (frameOut b p s) = u
  have hline : u.line = { s.line with tx := none, rx := .idle, plan := p.next } := by simp [← hu]
  have hopp' : u.line.opp = .number k := by rw [hline]; exact hopp
  have hagree : u.agree = s.agree := by simp [← hu]
  have hset := Settled.frameOver hopp' final
  have hrefused : (frameOver final u).counters.sightingsRefused = u.counters.sightingsRefused := by
    rw [hset.counters]; rfl
  have hsent : (frameOver final u).counters.transfersSent = u.counters.transfersSent := by rw [hset.counters]; rfl
  have htaken : (frameOver final u).counters.framesTaken = u.counters.framesTaken := by rw [hset.counters]; rfl
  obtain ⟨hcounters, hfusion⟩ := takeOwn_counters b p (frameOut b p s)
  rw [hu, frameOut_counters] at hcounters
  rw [hu, frameOut_fusion] at hfusion
  have hexec := exec_frameSent h0 hm htx hk hp
  rw [hu] at hexec
  refine ⟨_, hexec, fun hf => ?more, fun hf => ?final, fun r hb => ?presence, fun hb => ?heard, fun g hb => ?sighting,
    fun hb => ?other, ?sent, fun hq => ?quiet, ?taken, ?rest⟩
  case more =>
    subst hf
    rw [finish_frameOver_more hopp']
    refine ⟨by simp [← hu], hagree, ?_⟩
    rw [← plan_next_eq]
    simp [hline]
  case final =>
    subst hf
    have hprofile : u.profile = s.profile := by simp [← hu, State.profile]
    rw [frameOver_final hopp', finish_line]
    split
    next hlt =>
      rw [endOpportunity_of_next (by rw [hprofile]; exact hlt)]
      exact ⟨rfl, rfl, by simp [hline]⟩
    next hge =>
      rw [endOpportunity_of_last (by rw [hprofile]; exact Nat.not_lt.1 hge)]
      exact ⟨rfl, rfl, by simp [endCycle, hline]⟩
  case presence =>
    subst hb
    rw [finish_outbound, frameOver_outbound, finish_roster, frameOver_roster, ← hu]
    exact ⟨rfl, record_hear _ _ _ _ _⟩
  case heard =>
    rw [finish_roster, frameOver_roster, ← hu]
    cases b with
    | presence r => exact absurd rfl hb
    | mark m => exact absurd rfl hk
    | sighting g => simp [takeOwn]; rfl
    | transfer t => simp [takeOwn]; rfl
  case sighting =>
    subst hb
    rw [finish_outbound, frameOver_outbound, finish_fusion, hset.openLabel, finish_counters, hrefused, ← hu]
    exact ⟨by simp [takeOwn, outboundAfter], fun o ho => addSighting_openLabel g ho⟩
  case other =>
    rw [finish_outbound, frameOver_outbound, finish_fusion, hset.openLabel, finish_counters, hrefused, ← hu]
    cases b with
    | sighting g => exact absurd rfl hb
    | mark m => exact absurd rfl hk
    | presence r => exact ⟨rfl, rfl, rfl⟩
    | transfer t =>
      simp only [takeOwn]
      unfold transferSent
      split <;> exact ⟨rfl, rfl, rfl⟩
  case sent =>
    rw [finish_counters, hsent, ← hu]
    cases b with
    | mark m => exact absurd rfl hk
    | sighting g => exact addSighting_transfersSent g _
    | presence r => rfl
    | transfer t =>
      simp only [takeOwn, Body.kind, true_and]
      unfold transferSent
      split <;> rfl
  case quiet =>
    obtain ⟨hreports, htable, hfus, hcount⟩ := frameOver_quiet hopp' (hq.imp_right fun h => by rw [hagree]; exact h)
    rw [finish_counters, finish_fusion, finish_table, finish_trace, finish_panel, htable, hfus, hcount, hreports]
    refine ⟨hcounters, hfusion, by simp [← hu], _, rfl, ?_⟩
    rw [← hu, takeOwn_reports hk]
    rfl
  case taken => rw [finish_counters, htaken, hcounters]
  case rest => simp [← hu]

end Sys2Proof.Machine
end

section
/-! PROOFS. A MARK, taken or sent, and the collisions of an own MARK (O35, O36 and O37). -/

namespace Sys2Proof.Machine

/-! ### The command of a MARK -/

/-- A command that takes a MARK from the line, or ends the station's own. -/
def MarkCommand (s : State) (c : Instr) (own : Bool) (src : Station) (m : MarkBody) : Prop :=
  (∃ frame final, c = .markReceived frame ∧ own = false ∧ s.line.tx = none
      ∧ (s.line.rx = .idle ∨ s.line.rx = .busy ∨ ∃ b, s.line.rx = .collecting b)
      ∧ judge s.profile.stations s.own frame = .taken src final (.mark m))
    ∨ (c = .markSent ∧ own = true ∧ src = s.own ∧ ∃ final, s.line.tx = some ⟨.mark m, final⟩)

/-- The state in which a MARK is handled: a taken one has been counted and traced (R90). -/
def State.markHeard (s : State) (own : Bool) (src : Station) (m : MarkBody) : State :=
  if own then s else frameIn src (.mark m) s

theorem receives_of {s : State} (h0 : s.resetHeld = false) (hm : s.mode.awake = true) (htx : s.line.tx = none)
    (hrx : s.line.rx = .idle ∨ s.line.rx = .busy ∨ ∃ b, s.line.rx = .collecting b) : s.receives = true := by
  rcases hrx with hrx | hrx | ⟨b, hrx⟩ <;> simp [State.receives, awake_of_mode h0 hm, htx, hrx]

theorem exec_of_markCommand {s : State} {c : Instr} {own : Bool} {src : Station} {m : MarkBody}
    (h0 : s.resetHeld = false) (hm : s.mode.awake = true) (h : MarkCommand s c own src m) :
    exec c s = .next (handleMark own src m (s.markHeard own src m)) := by
  rcases h with ⟨frame, final, rfl, rfl, htx, hrx, hj⟩ | ⟨rfl, rfl, rfl, final, htx⟩
  · exact congrArg _ (receive_of_mark (receives_of h0 hm htx hrx) hj)
  · show execMarkSent s = _
    have hsend : s.sendingMark = some m := by simp [State.sendingMark, awake_of_mode h0 hm, htx]
    rw [execMarkSent, hsend]
    rfl

/-- Hearing a MARK counts the frame and traces it. -/
theorem markHeard_frame (s : State) (own : Bool) (src : Station) (m : MarkBody) : s.markHeard own src m = { s with
    trace := (s.markHeard own src m).trace
    counters := { s.counters with framesTaken :=
      if own then s.counters.framesTaken else satInc s.counters.framesTaken }
    panel := { s.panel with events := (s.markHeard own src m).panel.events } } := by
  cases own <;> rfl

/-! ### Entering DIVERGED (R129) -/

/-- What an offer records depends on the trace, the local tick and the place in the cycle alone. -/
theorem offer_trace_congr {s u : State} (k : TraceKind) (src : Option Station) (fr : Option FrameKind) (d : Detail)
    (ht : s.trace = u.trace) (hl : s.time.localTick = u.time.localTick) (hc : s.line.cycle = u.line.cycle)
    (ho : s.line.opp = u.line.opp) : (offer k src fr d s).trace = (offer k src fr d u).trace := by
  simp only [offer_trace, State.entryFor, ht, hl, hc, ho]

/-- The trace after a step that may enter DIVERGED: the entry is offered once, as the state is entered. -/
def DivergedTrace (s t : State) : Prop :=
  t.trace = if s.agree.state ≠ .diverged ∧ t.agree.state = .diverged then
      (offer .diverged none none .none s).trace else s.trace

theorem becomeDiverged_state (s : State) : (becomeDiverged s).agree.state = .diverged := by
  unfold becomeDiverged
  split
  next h => exact h
  next => rfl

theorem becomeDiverged_agree (s : State) : (becomeDiverged s).agree = { s.agree with
    state := .diverged, installed := if s.agree.state = .diverged then s.agree.installed else false } := by
  unfold becomeDiverged
  split
  next h => simp [← h]
  next => rfl

theorem becomeDiverged_trace (s : State) : DivergedTrace s (becomeDiverged s) := by
  unfold DivergedTrace
  rw [becomeDiverged_state]
  unfold becomeDiverged
  split
  next h => simp [h]
  next h =>
    rw [if_pos ⟨h, rfl⟩]
    rfl

theorem becomeState_state (st : AgreeState) (s : State) : (becomeState st s).agree.state = st := by
  unfold becomeState
  split
  next h => rw [becomeDiverged_state, h]
  next => rfl

theorem becomeState_staging (st : AgreeState) (s : State) : (becomeState st s).agree.staging = s.agree.staging := by
  unfold becomeState
  split
  · rw [becomeDiverged_agree]
  · rfl

theorem becomeState_trace (st : AgreeState) (s : State) : DivergedTrace s (becomeState st s) := by
  unfold becomeState
  split
  next => exact becomeDiverged_trace s
  next h => simp [DivergedTrace, h]

theorem runCheck_staging (c : Word16) (overrun after : Bool) (s : State) :
    (runCheck c overrun after s).agree.staging = s.agree.staging := by
  unfold runCheck
  split
  · rfl
  · exact becomeState_staging _ s

theorem runCheck_trace (c : Word16) (overrun after : Bool) (s : State) :
    DivergedTrace s (runCheck c overrun after s) := by
  unfold runCheck
  split
  · simp [DivergedTrace]
  · exact becomeState_trace _ s

/-- A check at an overrun leaves a DIVERGED station so (R133). -/
theorem runCheck_overrun (c : Word16) (after : Bool) {s : State} (h : s.agree.state = .diverged) :
    (runCheck c true after s).agree.state = .diverged := by
  unfold runCheck
  split
  · exact h
  · exact becomeState_state _ s

theorem closeAndCheck_staging (c : Word16) (overrun : Bool) (s : State) :
    (closeAndCheck c overrun s).agree.staging = s.agree.staging := by
  unfold closeAndCheck
  split
  · rw [runCheck_staging, closeCycle_agree]
  · rw [closeCycle_agree, runCheck_staging]

theorem closeAndCheck_trace (c : Word16) (overrun : Bool) (s : State) :
    DivergedTrace s (closeAndCheck c overrun s) := by
  unfold closeAndCheck
  split
  · exact runCheck_trace c overrun true (closeCycle { s with freeCount := s.freeCount + 1 })
  · exact runCheck_trace c overrun false { s with freeCount := s.freeCount + 1 }

theorem closeAndCheck_overrun (c : Word16) {s : State} (h : s.agree.state = .diverged) :
    (closeAndCheck c true s).agree.state = .diverged := by
  unfold closeAndCheck
  split
  · exact runCheck_overrun c true h
  · exact runCheck_overrun c false h

/-! ### The judgements of a MARK -/

theorem markJudged_staging (before : Mode) (own : Bool) (c : Word16) (overrun : Bool) (s : State) :
    (markJudged before own c overrun s).agree.staging = s.agree.staging := by
  unfold markJudged
  split
  · rw [leaveListening_agree, closeCycle_agree]
  · rw [becomeDiverged_agree, closeCycle_agree]
  · exact closeAndCheck_staging _ _ _

theorem markJudged_trace (before : Mode) (own : Bool) (c : Word16) (overrun : Bool) (s : State) :
    DivergedTrace s (markJudged before own c overrun s) := by
  unfold markJudged
  split
  · cases own <;> simp [DivergedTrace]
  · exact becomeDiverged_trace (closeCycle s)
  · exact closeAndCheck_trace c overrun s

theorem markJudged_overrun {before : Mode} (hb : before ≠ .listening) (own : Bool) (c : Word16) {s : State}
    (h : s.agree.state = .diverged) : (markJudged before own c true s).agree.state = .diverged := by
  unfold markJudged
  split
  · exact absurd rfl hb
  · exact becomeDiverged_state _
  · exact closeAndCheck_overrun c h

/-- A MARK has closed the cycle of its predecessor: the place in the cycle, the clock, the Roster and the staging. -/
def State.markTaken (s : State) (own : Bool) (src : Station) (m : MarkBody) : State :=
  staleStaging (hear src (adopt m.time (if own then markOpened (markLine m s) else markLine m s)))

theorem handleMark_eq (own : Bool) (src : Station) (m : MarkBody) (s : State) : handleMark own src m s
    = markJudged s.mode own s.line.cycle s.fusion.overruns (markLabels m.cycle m.time (s.markTaken own src m)) := by
  cases own <;> rfl

theorem markTaken_agree (s : State) (own : Bool) (src : Station) (m : MarkBody) : (s.markTaken own src m).agree
    = { s.agree with
        staging := if s.agree.staging.active then Staging.empty else { s.agree.staging with discarded := false } } := by
  have hstale : ∀ u : State, (staleStaging u).agree = { u.agree with
      staging := if u.agree.staging.active then Staging.empty else { u.agree.staging with discarded := false } } := by
    intro u
    unfold staleStaging
    cases u.agree.staging.active <;> rfl
  rw [State.markTaken, hstale]
  cases own <;> rfl

theorem markLabels_staging (number : Word16) (now : Tick) (s : State) :
    (markLabels number now s).agree.staging = s.agree.staging := by
  unfold markLabels
  split
  · rw [becomeDiverged_agree]
  · rfl

theorem handleMark_staging (own : Bool) (src : Station) (m : MarkBody) (s : State) :
    (handleMark own src m s).agree.staging
      = if s.agree.staging.active then Staging.empty else { s.agree.staging with discarded := false } := by
  rw [handleMark_eq, markJudged_staging, markLabels_staging, markTaken_agree]

theorem markTaken_fusion (s : State) (own : Bool) (src : Station) (m : MarkBody) :
    (s.markTaken own src m).fusion = s.fusion := by cases own <;> simp [State.markTaken]

theorem markLabels_of_overrun {s : State} (h : s.fusion.overruns = true) (number : Word16) (now : Tick) :
    markLabels number now s = becomeDiverged { s with
      fusion := s.fusion.atMark number now
      counters := { s.counters with fusionOverruns := satInc s.counters.fusionOverruns } } := if_pos h

theorem markLabels_of_no_overrun {s : State} (h : s.fusion.overruns = false) (number : Word16) (now : Tick) :
    markLabels number now s = { s with fusion := s.fusion.atMark number now } := if_neg (by simp [h])

/-- An overrun makes a station that does not listen DIVERGED (R40). -/
theorem handleMark_overrun {own : Bool} {src : Station} {m : MarkBody} {s : State} (hm : s.mode ≠ .listening)
    (h : s.fusion.overruns = true) : (handleMark own src m s).agree.state = .diverged := by
  rw [handleMark_eq, h, markLabels_of_overrun (by rw [markTaken_fusion]; exact h)]
  exact markJudged_overrun hm own _ (becomeDiverged_state _)

/-- A MARK's trace: its own entries, and DIVERGED as that state is entered. -/
theorem handleMark_trace {own : Bool} {src : Station} {m : MarkBody} {s : State}
    (hm : s.mode ≠ .listening ∨ s.fusion.overruns = false) :
    DivergedTrace (s.markTaken own src m) (handleMark own src m s) := by
  cases ho : s.fusion.overruns with
  | false =>
    rw [handleMark_eq, markLabels_of_no_overrun (by rw [markTaken_fusion]; exact ho)]
    exact markJudged_trace s.mode own s.line.cycle _ { s.markTaken own src m with fusion := _ }
  | true =>
    have hlisten : s.mode ≠ .listening := hm.resolve_right (by simp [ho])
    have hlabels := markLabels_of_overrun (s := s.markTaken own src m) (by rw [markTaken_fusion]; exact ho) m.cycle m.time
    have hstate : (markLabels m.cycle m.time (s.markTaken own src m)).agree.state = .diverged := by
      rw [hlabels, becomeDiverged_state]
    have hfinal := handleMark_overrun (own := own) (src := src) (m := m) hlisten ho
    have hjudged := markJudged_trace s.mode own s.line.cycle s.fusion.overruns
      (markLabels m.cycle m.time (s.markTaken own src m))
    rw [DivergedTrace, hstate, if_neg (by simp), ← handleMark_eq] at hjudged
    have hdiv := becomeDiverged_trace { s.markTaken own src m with
      fusion := (s.markTaken own src m).fusion.atMark m.cycle m.time
      counters := { (s.markTaken own src m).counters with
        fusionOverruns := satInc (s.markTaken own src m).counters.fusionOverruns } }
    rw [DivergedTrace, becomeDiverged_state] at hdiv
    rw [DivergedTrace, hfinal, hjudged, hlabels]
    exact hdiv

/-! ### The events of a MARK -/

theorem offer_events_getLsbD (k : TraceKind) (src : Option Station) (fr : Option FrameKind) (d : Detail) (s : State)
    {i : Nat} (hi : i ≠ 7) : (offer k src fr d s).panel.events.getLsbD i = s.panel.events.getLsbD i := by
  rw [offer_panel]
  simp [withEvent_getLsbD, StatusEvent.bit, hi]

theorem becomeDiverged_events_getLsbD (s : State) {i : Nat} (h3 : i ≠ 3) (h7 : i ≠ 7) :
    (becomeDiverged s).panel.events.getLsbD i = s.panel.events.getLsbD i := by
  unfold becomeDiverged
  split
  · rfl
  · rw [offer_events_getLsbD _ _ _ _ _ h7]
    show (withEvent true .diverged s.panel.events).getLsbD i = _
    simp [withEvent_getLsbD, StatusEvent.bit, h3]

theorem runCheck_events_getLsbD (c : Word16) (overrun after : Bool) (s : State) {i : Nat} (h3 : i ≠ 3) (h7 : i ≠ 7) :
    (runCheck c overrun after s).panel.events.getLsbD i = s.panel.events.getLsbD i := by
  unfold runCheck
  split
  · rfl
  · simp only [takeCheck_panel, applyJudgement, becomeState]
    split
    · exact becomeDiverged_events_getLsbD s h3 h7
    · rfl

/-- LINE LOST is raised as it begins (R125). -/
theorem closeCycle_lineLost (s : State) : (closeCycle s).panel.events.getLsbD 4
    = (s.panel.events.getLsbD 4 || ((s.roster.close s.own).lineLost && !s.roster.lineLost)) := by
  show (withEvent _ .lineLost s.panel.events).getLsbD 4 = _
  rw [withEvent_getLsbD, Bool.and_comm (s.roster.close s.own).lineLost]
  simp [StatusEvent.bit]

theorem leaveListening_events_getLsbD (s : State) {i : Nat} (h : i ≠ 5) :
    (leaveListening s).panel.events.getLsbD i = s.panel.events.getLsbD i := by
  unfold leaveListening
  split
  · exact evaluateIf_events_getLsbD true h
  · rfl

theorem markJudged_lineLost (before : Mode) (own : Bool) (c : Word16) (overrun : Bool) (s : State) :
    (markJudged before own c overrun s).panel.events.getLsbD 4
      = (s.panel.events.getLsbD 4 || ((s.roster.close s.own).lineLost && !s.roster.lineLost)) := by
  unfold markJudged
  split
  · rw [leaveListening_events_getLsbD _ (by decide)]
    exact closeCycle_lineLost _
  · rw [becomeDiverged_events_getLsbD _ (by decide) (by decide)]
    exact closeCycle_lineLost _
  · unfold closeAndCheck
    split
    · rw [runCheck_events_getLsbD _ _ _ _ (by decide) (by decide)]
      exact closeCycle_lineLost _
    · rw [closeCycle_lineLost, runCheck_events_getLsbD _ _ _ _ (by decide) (by decide), runCheck_roster]
      simp [State.own]

theorem markLabels_events_getLsbD (number : Word16) (now : Tick) (s : State) {i : Nat} (h3 : i ≠ 3) (h7 : i ≠ 7) :
    (markLabels number now s).panel.events.getLsbD i = s.panel.events.getLsbD i := by
  unfold markLabels
  split
  · exact becomeDiverged_events_getLsbD _ h3 h7
  · rfl

theorem markTaken_events_getLsbD (s : State) (own : Bool) (src : Station) (m : MarkBody) {i : Nat} (h7 : i ≠ 7) :
    (s.markTaken own src m).panel.events.getLsbD i = s.panel.events.getLsbD i := by
  have hstale : ∀ u : State, (staleStaging u).panel.events.getLsbD i = u.panel.events.getLsbD i := by
    intro u
    unfold staleStaging
    split
    · exact offer_events_getLsbD _ _ _ _ _ h7
    · rfl
  rw [State.markTaken, hstale]
  cases own with
  | false => rfl
  | true =>
    exact (offer_events_getLsbD _ _ _ _ _ h7).trans (offer_events_getLsbD _ _ _ _ _ h7)

theorem handleMark_lineLost (own : Bool) (src : Station) (m : MarkBody) (s : State) :
    (handleMark own src m s).panel.events.getLsbD 4 = (s.panel.events.getLsbD 4
      || (((s.roster.hear src).close s.own).lineLost && !s.roster.lineLost)) := by
  have hroster : (markLabels m.cycle m.time (s.markTaken own src m)).roster = s.roster.hear src := by
    cases own <;> simp [State.markTaken]
  have hown : (markLabels m.cycle m.time (s.markTaken own src m)).own = s.own := by
    cases own <;> simp [State.markTaken, State.own]
  rw [handleMark_eq, markJudged_lineLost, markLabels_events_getLsbD _ _ _ (by decide) (by decide),
    markTaken_events_getLsbD _ _ _ _ (by decide), hroster, hown]
  rfl

end Sys2Proof.Machine
end

section
/-! PROOFS. The obligations about a MARK (O35, O36 and O37). -/

namespace Sys2Proof.Machine

theorem clockStep_iff (s : State) (t : Tick) : s.clockStep t = true
    ↔ s.time.firstAdoption = false ∧ s.profile.stepTolerance < ((t - s.time.yardClock).toInt).natAbs := by
  simp [State.clockStep, tickDiff]

theorem overruns_iff (f : Fusion) : f.overruns = true
    ↔ f.openLabel.isSome = true ∧ f.fusing.isSome = true ∧ f.waiting.isSome = true := by
  simp [Fusion.overruns, and_assoc]

theorem overruns_of_closed {f : Fusion} (h : f.openLabel = none) : f.overruns = false := by simp [Fusion.overruns, h]

/-! ### The labels at a MARK (R23, R24, R40) -/

theorem atMark_closed {f : Fusion} (h : f.openLabel = none) (number : Word16) (now : Tick) :
    f.atMark number now = { f with openLabel := some ⟨number, []⟩ } := by simp [Fusion.atMark, h]

theorem atMark_idle {f : Fusion} {o : OpenLabel} (h : f.openLabel = some o) (hf : f.fusing = none) (number : Word16)
    (now : Tick) : f.atMark number now
      = { f with openLabel := some ⟨number, []⟩, fusing := some (o.closed now) } := by
  simp [Fusion.atMark, h, hf]

theorem atMark_busy {f : Fusion} {o : OpenLabel} {l : Label} (h : f.openLabel = some o) (hf : f.fusing = some l)
    (hw : f.waiting = none) (number : Word16) (now : Tick) : f.atMark number now
      = { f with openLabel := some ⟨number, []⟩, fusing := some l, waiting := some (o.closed now) } := by
  simp [Fusion.atMark, h, hf, hw]

theorem atMark_overrun {f : Fusion} {o : OpenLabel} {l w : Label} (h : f.openLabel = some o) (hf : f.fusing = some l)
    (hw : f.waiting = some w) (number : Word16) (now : Tick) : f.atMark number now
      = ⟨some ⟨number, []⟩, none, some l.overrun, f.stopping || !l.sightings.isEmpty⟩ := by
  simp [Fusion.atMark, h, hf, hw]

/-! ### The trace of a MARK before its judgements -/

theorem staleStaging_trace (s : State) : (staleStaging s).trace = if s.agree.staging.active then
    (offer .transferDiscarded (some s.agree.staging.source) (some .transfer) (.discard .stale) s).trace else s.trace := by
  unfold staleStaging
  split <;> rfl

/-- The place in the cycle that a MARK gives. -/
def State.atCycle (s : State) (c : Word16) : State := { s with line := { s.line with cycle := c, opp := .number 0 } }

/-- The entries that every MARK makes, from the state before it. -/
def State.markEntries (s : State) (own : Bool) (src : Station) (m : MarkBody) : State :=
  if own then
    offer .markOpened (some s.own) (some .mark) .none
      (offer .frameOut (some s.own) (some .mark) .none (s.atCycle m.cycle))
  else { offer .frameIn (some src) (some .mark) .none s with line := (s.atCycle m.cycle).line }

/-- And the entry of a staging that becomes stale. -/
def State.markTraced (s : State) (own : Bool) (src : Station) (m : MarkBody) : State :=
  if s.agree.staging.active then
    offer .transferDiscarded (some s.agree.staging.source) (some .transfer) (.discard .stale) (s.markEntries own src m)
  else s.markEntries own src m

theorem markTaken_traced (s : State) (own : Bool) (src : Station) (m : MarkBody) :
    ((s.markHeard own src m).markTaken own src m).trace = (s.markTraced own src m).trace := by
  rw [State.markTaken, staleStaging_trace]
  unfold State.markTraced
  cases own with
  | true =>
    show (if s.agree.staging.active then _ else _) = _
    split <;> rfl
  | false =>
    show (if s.agree.staging.active then _ else _) = _
    split <;> rfl

theorem markTraced_place (s : State) (own : Bool) (src : Station) (m : MarkBody) :
    (s.markTraced own src m).time = s.time ∧ (s.markTraced own src m).line.cycle = m.cycle
      ∧ (s.markTraced own src m).line.opp = .number 0 := by
  unfold State.markTraced State.markEntries
  split <;> cases own <;> exact ⟨rfl, rfl, rfl⟩

theorem markTaken_place (s : State) (own : Bool) (src : Station) (m : MarkBody) :
    (s.markTaken own src m).time.localTick = s.time.localTick ∧ (s.markTaken own src m).line.cycle = m.cycle
      ∧ (s.markTaken own src m).line.opp = .number 0 := by
  cases own <;> simp [State.markTaken, markLine]

/-- The diverged entry, offered after the others. -/
theorem markTaken_diverged (s : State) (own : Bool) (src : Station) (m : MarkBody) :
    (offer .diverged none none .none ((s.markHeard own src m).markTaken own src m)).trace
      = (offer .diverged none none .none (s.markTraced own src m)).trace := by
  obtain ⟨ht, hc, ho⟩ := markTaken_place (s.markHeard own src m) own src m
  obtain ⟨ht', hc', ho'⟩ := markTraced_place s own src m
  refine offer_trace_congr _ _ _ _ (markTaken_traced s own src m) ?_ (hc.trans hc'.symm) (ho.trans ho'.symm)
  rw [ht, ht', markHeard_frame]

theorem afterMark_of_awake {m : Mode} (h : m.awake = true) : m.afterMark = if m = .mute then .mute else .active := by
  cases m with
  | loading | configFault | lull => exact absurd h Bool.false_ne_true
  | listening | active | resync | mute => rfl

/-- Settles O35. -/
theorem markRestartsTheCycle : Obligations.MarkRestartsTheCycle := by
  intro s c src m h0 hm hcmd
  obtain ⟨own, hown, hmark⟩ : ∃ own, (c = .markSent ↔ own = true) ∧ MarkCommand s c own src m := by
    rcases hcmd with ⟨frame, final, rfl, htx, hrx, hj⟩ | ⟨rfl, hsrc, final, htx⟩
    · exact ⟨false, by simp, .inl ⟨frame, final, rfl, rfl, htx, hrx, hj⟩⟩
    · exact ⟨true, by simp, .inr ⟨rfl, rfl, hsrc, final, htx⟩⟩
  have hheard := markHeard_frame s own src m
  have hfusion := handleMark_fusion own src m (s.markHeard own src m)
  have hcounters := handleMark_counters own src m (s.markHeard own src m)
  have hagree : (s.markHeard own src m).agree = s.agree := by rw [hheard]
  have hfus : (s.markHeard own src m).fusion = s.fusion := by rw [hheard]
  have hmode : (s.markHeard own src m).mode = s.mode := by rw [hheard]
  have hclock : (s.markHeard own src m).clockStep m.time = s.clockStep m.time := by rw [hheard]; rfl
  have hcount := congrArg State.counters hheard
  have hevents : (s.markHeard own src m).panel.events.getLsbD 4 = s.panel.events.getLsbD 4 := by
    cases own
    · exact offer_events_getLsbD _ _ _ _ _ (by decide)
    · rfl
  rw [hfus] at hfusion
  rw [hcount, hclock, hagree, hfus] at hcounters
  refine ⟨_, exec_of_markCommand h0 hm hmark, ?mode, ?line, ?time, ?clock, ?opened, ?taken, ?label, fun ho => ?closed,
    fun o ho => ⟨fun hf => ?idle, fun l hf hw => ?busy, fun l w hf hw => ?overrun⟩, ?roster, ?lost, fun ha => ?stale,
    fun ha => ?quiet, fun hd => ?trace, ?rest⟩
  case mode =>
    rw [handleMark_mode, hmode]
    exact afterMark_of_awake hm
  case line => rw [handleMark_line, hheard]; rfl
  case time => rw [handleMark_time, hheard]
  case clock =>
    rw [hcounters, ← if_congr (clockStep_iff s m.time) rfl rfl]
  case opened => rw [hcounters, if_congr hown rfl rfl]
  case taken => rw [hcounters, if_congr hown rfl rfl]
  case label => rw [hfusion, Fusion.atMark_openLabel]
  case closed => rw [hfusion, atMark_closed ho]; exact ⟨rfl, rfl, rfl⟩
  case idle => rw [hfusion, atMark_idle ho hf]; exact ⟨rfl, rfl, rfl⟩
  case busy => rw [hfusion, atMark_busy ho hf hw]; exact ⟨rfl, rfl, rfl⟩
  case overrun =>
    have hover : s.fusion.overruns = true := (overruns_iff _).2 (by simp [ho, hf, hw])
    rw [hfusion, atMark_overrun ho hf hw, hcounters, hover]
    exact ⟨rfl, rfl, rfl, rfl, fun hl => handleMark_overrun (by rw [hmode]; exact hl) (by rw [hfus]; exact hover)⟩
  case roster =>
    rw [handleMark_roster, hheard]
    rfl
  case lost =>
    rw [handleMark_lineLost, hevents, handleMark_roster, hheard]
  case stale =>
    rw [handleMark_staging, hcounters, hagree, ha]
    exact ⟨rfl, rfl⟩
  case quiet =>
    rw [handleMark_staging, hcounters, hagree, ha]
    exact ⟨rfl, rfl⟩
  case trace =>
    refine ⟨s.atCycle m.cycle, s.markEntries own src m, s.markTraced own src m, rfl, ?_, rfl, ?_⟩
    · rw [if_congr hown rfl rfl]
      rfl
    · have htrace := handleMark_trace (own := own) (src := src) (m := m) (s := s.markHeard own src m)
        (by rw [hmode, hfus]; exact hd.imp_right overruns_of_closed)
      rw [DivergedTrace, markTaken_diverged, markTaken_traced] at htrace
      rw [htrace]
      have hstate : ((s.markHeard own src m).markTaken own src m).agree.state = s.agree.state := by
        rw [markTaken_agree, hagree]
      rw [hstate]
  case rest =>
    rw [handleMark_loader, handleMark_table, handleMark_exc, handleMark_sensor, handleMark_outbound, hheard]

/-! ### A MARK in LISTENING and in RESYNC (R94, R95, R111) -/

theorem zonesAfterClose_eq (lost pending : Bool) (zones : List Zone) : zonesAfterClose lost pending zones
    = if lost = true ∨ pending = true then zones.map (fun z => { z with degraded := lost }) else zones := by
  cases lost <;> cases pending <;> simp [zonesAfterClose, setDegraded]

theorem closeCycle_zones (s : State) : (closeCycle s).warn.zones
    = zonesAfterClose (s.roster.close s.own).lineLost s.warn.pendingAgreed s.warn.zones := rfl

theorem leaveListening_of_rising {s : State} {k : Nat} (h : s.detector.state = .rising k) :
    leaveListening s = evaluate { s with detector := { s.detector with state := .calm, run := none } } := by
  simp [leaveListening, h]

theorem leaveListening_of_not_rising {s : State} (h : ∀ k, s.detector.state ≠ .rising k) : leaveListening s = s := by
  unfold leaveListening
  split
  next k hk => exact absurd hk (h k)
  next => rfl

theorem becomeDiverged_event (s : State) (h : s.agree.state ≠ .diverged) :
    (becomeDiverged s).panel.events.getLsbD 3 = true := by
  rw [becomeDiverged, if_neg h, offer_events_getLsbD _ _ _ _ _ (by decide)]
  show (withEvent true .diverged s.panel.events).getLsbD 3 = true
  simp [withEvent_getLsbD, StatusEvent.bit]

/-- The state before the judgements of a MARK that closes no label. -/
def State.markCounted (s : State) (own : Bool) (src : Station) (m : MarkBody) : State :=
  markLabels m.cycle m.time ((s.markHeard own src m).markTaken own src m)

theorem markCounted_keeps {s : State} (own : Bool) (src : Station) (m : MarkBody) (ho : s.fusion.openLabel = none) :
    (s.markCounted own src m).detector = s.detector ∧ (s.markCounted own src m).warn = s.warn
      ∧ (s.markCounted own src m).loader = s.loader ∧ (s.markCounted own src m).table = s.table
      ∧ (s.markCounted own src m).agree = { s.agree with staging :=
          if s.agree.staging.active then Staging.empty else { s.agree.staging with discarded := false } } := by
  have hfus : ((s.markHeard own src m).markTaken own src m).fusion = s.fusion := by
    rw [markTaken_fusion, markHeard_frame]
  rw [State.markCounted, markLabels_of_no_overrun (by rw [hfus]; exact overruns_of_closed ho)]
  have hagree : (s.markHeard own src m).agree = s.agree := by rw [markHeard_frame]
  refine ⟨?_, ?_, ?_, ?_, ?_⟩
  · cases own <;> simp [State.markTaken, State.markHeard]
  · cases own <;> simp [State.markTaken, State.markHeard]
  · cases own <;> simp [State.markTaken, State.markHeard]
  · cases own <;> simp [State.markTaken, State.markHeard]
  · show ((s.markHeard own src m).markTaken own src m).agree = _
    rw [markTaken_agree, hagree]

theorem handleMark_counted (s : State) (own : Bool) (src : Station) (m : MarkBody) :
    handleMark own src m (s.markHeard own src m)
      = markJudged s.mode own s.line.cycle s.fusion.overruns (s.markCounted own src m) := by
  rw [handleMark_eq]
  cases own <;> rfl

/-- The record of a station that leaves LISTENING with its joining MARK (R94, R95). -/
def State.joined (s : State) (own : Bool) : State :=
  closeCycle { s with agree := { s.agree with state := if own then .agreed else .joining } }

/-- Settles O36. -/
theorem joiningAndResyncMarksRunNoCheck : Obligations.JoiningAndResyncMarksRunNoCheck := by
  intro s c own src m h0 hcmd ho
  obtain ⟨hdet, hwarn, hloader, htable, hagree⟩ := markCounted_keeps own src m ho
  have hlost : ∀ u : State, (closeCycle u).roster.lineLost = (u.roster.close u.own).lineLost := fun _ => rfl
  refine ⟨fun hmode => ?listening, fun hmode => ?resync⟩
  case listening =>
    have ht : handleMark own src m (s.markHeard own src m) = leaveListening ((s.markCounted own src m).joined own) := by
      rw [handleMark_counted, hmode]
      rfl
    have hfinal : (handleMark own src m (s.markHeard own src m)).mode = .active := by
      rw [handleMark_mode, markHeard_frame, hmode]
      rfl
    refine ⟨_, exec_of_markCommand h0 (by rw [hmode]; rfl) hcmd, hfinal, ?_⟩
    rw [ht, leaveListening_agree, leaveListening_roster, leaveListening_time]
    refine ⟨rfl, ?_, fun k hk => ?_, fun hk => ?_, _, rfl, ?_⟩
    · show ((s.markCounted own src m).agree.group, (s.markCounted own src m).agree.runCount,
        (s.markCounted own src m).agree.history, (s.markCounted own src m).agree.installed) = _
      rw [hagree]
    · rw [leaveListening_of_rising (s := (s.markCounted own src m).joined own) (by exact hdet ▸ hk)]
      exact congrArg (fun d : Detector => { d with state := .calm, run := none }) hdet
    · rw [leaveListening_of_not_rising (s := (s.markCounted own src m).joined own) (fun k hc => hk k (hdet ▸ hc))]
      exact hdet
    · have hzones : ((s.markCounted own src m).joined own).warn.zones
          = if ((s.markCounted own src m).joined own).roster.lineLost = true ∨ s.warn.pendingAgreed = true then
              s.warn.zones.map (fun z => { z with
                degraded := ((s.markCounted own src m).joined own).roster.lineLost })
            else s.warn.zones := by
        rw [State.joined, closeCycle_zones, zonesAfterClose_eq, hlost]
        show (if _ ∨ (s.markCounted own src m).warn.pendingAgreed = true then
          (s.markCounted own src m).warn.zones.map _ else (s.markCounted own src m).warn.zones) = _
        rw [hwarn]
      split
      next k hk =>
        rw [leaveListening_of_rising (s := (s.markCounted own src m).joined own) (by exact hdet ▸ hk)]
        exact evaluate_zones_congr hloader htable rfl rfl hzones
      next hk =>
        rw [leaveListening_of_not_rising (s := (s.markCounted own src m).joined own) (fun k hc => hk k (hdet ▸ hc))]
        exact hzones
  case resync =>
    have ht : handleMark own src m (s.markHeard own src m) = becomeDiverged (closeCycle (s.markCounted own src m)) := by
      rw [handleMark_counted, hmode]
      rfl
    have hfinal : (handleMark own src m (s.markHeard own src m)).mode = .active := by
      rw [handleMark_mode, markHeard_frame, hmode]
      rfl
    refine ⟨_, exec_of_markCommand h0 (by rw [hmode]; rfl) hcmd, hfinal, ?_⟩
    rw [ht]
    have hstate : (closeCycle (s.markCounted own src m)).agree.state = s.agree.state := by
      rw [closeCycle_agree, hagree]
    refine ⟨becomeDiverged_state _, ?_, fun hd => ⟨?_, becomeDiverged_event _ (by rw [hstate]; exact hd)⟩, ?_, ?_⟩
    · rw [becomeDiverged_agree, closeCycle_agree, hagree]
    · rw [becomeDiverged_agree, hstate, if_neg hd]
    · rw [becomeDiverged_detector]
      exact hdet
    · rw [becomeDiverged_warn, becomeDiverged_roster, closeCycle_zones, zonesAfterClose_eq, hlost, hwarn]

/-! ### Collisions (R100, R108) -/

theorem enterMute_of_awake {s : State} (r : MuteReason) (h : s.mode ≠ .mute) : enterMute r s = raiseEvent .muted { s with
    mode := .mute
    line := { s.line with
      muteReason := some r, openTimer := .stopped, listenLeft := none, zeroCadence := none, plan := none } } := if_neg h

/-- Settles O37. -/
theorem markCollisionsLeadToMute : Obligations.MarkCollisionsLeadToMute := by
  intro s m final h0 hm hmute htx
  have hexec : exec .markCollision s
      = .next (finish (if 3 ≤ s.line.collisions + 1 then enterMute .markContention (collide s) else collide s)) := by
    have hsend : s.sendingMark = some m := by simp [State.sendingMark, awake_of_mode h0 hm, htx]
    show execMarkCollision s = _
    rw [execMarkCollision, hsend]
  refine ⟨fun hlt => ?_, fun hge => ?_⟩
  · rw [hexec, if_neg (by omega)]
    rfl
  · rw [if_pos hge, enterMute_of_awake (s := collide s) .markContention hmute,
      finish_of_not_ready (lullReady_of_mode Mode.noConfusion)] at hexec
    exact ⟨_, hexec, rfl, rfl, rfl, rfl, rfl, rfl⟩

end Sys2Proof.Machine
end

section
/-! PROOFS. The open timer after a frame, and a frame rejected (O43). -/

namespace Sys2Proof.Machine

/-! ### The line after a frame (R99, R100) -/

/-- The open timer after a frame that is not a MARK: one that waited for the frame's end backs off (R99, R100). -/
def State.timerAfterFrame (s : State) : OpenTimer :=
  if (s.line.openTimer = .busy ∨ s.line.rx = .collecting true) ∧ s.mode ≠ .mute then
    .ms ((if s.mode = .listening then s.profile.quietGapMs else s.profile.gapMs s.preference)
      + (s.own.val + 1) * s.profile.staggerMs * 2) 0
  else s.line.openTimer

theorem lineIdle_timer (s : State) : (lineIdle s).line.openTimer = s.timerAfterFrame := by
  have h : (s.awaitsFrameEnd && s.mode != .mute) = true
      ↔ (s.line.openTimer = .busy ∨ s.line.rx = .collecting true) ∧ s.mode ≠ .mute := by simp [State.awaitsFrameEnd]
  exact if_congr h rfl rfl

theorem lineIdle_eq (s : State) :
    (lineIdle s).line = { s.line with rx := .idle, openTimer := s.timerAfterFrame } := by rw [← lineIdle_timer s]; rfl

/-- Outside LISTENING the back-off is formed with the gap of the preference. -/
theorem timerAfterFrame_of_cycle {s : State} (h : s.mode ≠ .listening) : s.timerAfterFrame
    = if (s.line.openTimer = .busy ∨ s.line.rx = .collecting true) ∧ s.mode ≠ .mute then
        .ms (s.profile.gapMs s.preference + (s.own.val + 1) * s.profile.staggerMs * 2) 0
      else s.line.openTimer := by rw [State.timerAfterFrame, if_neg h]

/-! ### A frame rejected (R90, R108) -/

theorem exec_frameRejected {s : State} {frame : List RxChar} {r : RejectReason} {isCut : Bool} {h : Option Byte}
    (hr : s.receives = true) (hj : judge s.profile.stations s.own frame = .rejected r isCut h) :
    exec (.frameRejected frame) s = .next (rejectFrame r isCut h s) := by
  show execFrameRejected frame s = _
  rw [execFrameRejected, hr, State.judges, hj]

theorem rejectFrame_of_other {r : RejectReason} (isCut : Bool) (h : Option Byte) (s : State) (hr : r ≠ .own) :
    rejectFrame r isCut h s = restartSilence (lineIdle (noteRejection r isCut h s)) := by
  unfold rejectFrame
  dsimp only
  rw [if_neg hr]

theorem rejectFrame_of_own (isCut : Bool) (h : Option Byte) (s : State) : rejectFrame .own isCut h s
    = restartSilence (lineIdle (foundDuplicate h (noteRejection .own isCut h s))) := rfl

theorem foundDuplicate_reports (h : Option Byte) (s : State) :
    (foundDuplicate h s).counters = s.counters
      ∧ (foundDuplicate h s).trace = (offer .duplicate (some s.own) (h.map headerKind) .none s).trace
      ∧ (foundDuplicate h s).panel = { s.panel with events := (foundDuplicate h s).panel.events } := by
  unfold foundDuplicate enterMute
  split <;> exact ⟨rfl, rfl, rfl⟩

/-- A station in MUTE stays there as it is; another one enters it (R108). -/
theorem foundDuplicate_line (h : Option Byte) (s : State) : (foundDuplicate h s).mode = .mute
    ∧ (foundDuplicate h s).line = if s.mode = .mute then s.line else { s.line with
        muteReason := some .duplicate, openTimer := .stopped, listenLeft := none, zeroCadence := none, plan := none } := by
  unfold foundDuplicate enterMute
  split
  next hm => exact ⟨hm, (if_pos hm).symm⟩
  next hm => exact ⟨rfl, (if_neg hm).symm⟩

theorem foundDuplicate_muted (h : Option Byte) {s : State} (hm : s.mode ≠ .mute) :
    (foundDuplicate h s).panel.events.getLsbD 8 = true := by
  unfold foundDuplicate enterMute
  rw [if_neg (by simpa using hm)]
  show (withEvent true .muted _).getLsbD 8 = true
  simp [withEvent_getLsbD, StatusEvent.bit]

theorem rejectFrame_counters (r : RejectReason) (isCut : Bool) (h : Option Byte) (s : State) :
    (rejectFrame r isCut h s).counters = (noteRejection r isCut h s).counters := by
  by_cases hr : r = .own
  · subst hr
    rw [rejectFrame_of_own, restartSilence_counters, lineIdle_counters, (foundDuplicate_reports _ _).1]
  · rw [rejectFrame_of_other _ _ _ hr, restartSilence_counters, lineIdle_counters]

theorem noteRejection_quiet (r : RejectReason) (h : Option Byte) {s : State} {o : Bool}
    (hrx : s.line.rx = .collecting o) : noteRejection r true h s = s := by
  simp [noteRejection, hrx, Rx.afterMismatch]

theorem noteRejection_counted (r : RejectReason) {isCut : Bool} (h : Option Byte) {s : State}
    (hc : isCut = false ∨ ∀ o, s.line.rx ≠ .collecting o) : noteRejection r isCut h s = countRejection r h s := by
  have hcut : (isCut && s.line.rx.afterMismatch) = false := by
    rcases hc with rfl | hrx
    · rfl
    · cases hl : s.line.rx <;> simp_all [Rx.afterMismatch]
  exact if_neg (by simp [hcut])

theorem noteRejection_line_eq (r : RejectReason) (isCut : Bool) (h : Option Byte) (s : State) :
    (noteRejection r isCut h s).timerAfterFrame = s.timerAfterFrame
      ∧ (noteRejection r isCut h s).panel = { s.panel with events := (noteRejection r isCut h s).panel.events } := by
  unfold noteRejection
  split <;> exact ⟨rfl, rfl⟩

/-- The reports of a rejection, as those of an offer to the state before it. -/
theorem noteRejection_reports (r : RejectReason) (isCut : Bool) (h : Option Byte) (s : State) :
    ∃ u : State, (isCut = true → (∃ o, s.line.rx = .collecting o) →
        u = s ∧ (noteRejection r isCut h s).counters = s.counters)
      ∧ (isCut = false ∨ (∀ o, s.line.rx ≠ .collecting o) →
        u = offer .checkFail (h.map headerSource) (h.map headerKind) (.reject r) s
        ∧ (noteRejection r isCut h s).counters = s.counters.incReject r)
      ∧ (u.trace, u.panel) = ((noteRejection r isCut h s).trace, (noteRejection r isCut h s).panel)
      ∧ (u.line, u.time, u.loader) = (s.line, s.time, s.loader) := by
  by_cases hc : isCut = false ∨ ∀ o, s.line.rx ≠ .collecting o
  · refine ⟨offer .checkFail (h.map headerSource) (h.map headerKind) (.reject r) s, fun hcut ⟨o, ho⟩ => ?_,
      fun _ => ⟨rfl, by rw [noteRejection_counted r h hc]; rfl⟩, by rw [noteRejection_counted r h hc]; rfl, rfl⟩
    exact absurd hc (by simp [hcut, ho])
  · obtain ⟨hcut, hrx⟩ := not_or.1 hc
    obtain rfl : isCut = true := by simpa using hcut
    obtain ⟨o, ho⟩ : ∃ o, s.line.rx = .collecting o := by simpa only [not_forall, not_not] using hrx
    exact ⟨s, fun _ _ => ⟨rfl, by rw [noteRejection_quiet r h ho]⟩, fun h' => absurd h' hc,
      by rw [noteRejection_quiet r h ho], rfl⟩

/-- Settles O43. -/
theorem rejectedFrameIsCountedAndAnOwnNumberMutes : Obligations.RejectedFrameIsCountedAndAnOwnNumberMutes := by
  intro s frame r isCut h h0 hm htx hrx hj
  obtain ⟨u, hquiet, hcounted, hreports, hu⟩ := noteRejection_reports r isCut h s
  obtain ⟨htrace, hpanel⟩ := Prod.mk.injEq .. ▸ hreports
  simp only [Prod.mk.injEq] at hu
  obtain ⟨hul, hut, hus⟩ := hu
  obtain ⟨htimer, hpanel'⟩ := noteRejection_line_eq r isCut h s
  refine ⟨rejectFrame r isCut h s, u, exec_frameRejected (receives_of h0 hm htx hrx) hj,
    fun hcut ho => ⟨(hquiet hcut ho).1, (rejectFrame_counters ..).trans (hquiet hcut ho).2⟩,
    fun hc => ⟨(hcounted hc).1, ?counters⟩, ?_⟩
  case counters =>
    rw [rejectFrame_counters, (hcounted hc).2]
    cases r <;> rfl
  by_cases hr : r = .own
  · subst hr
    obtain ⟨hfcounters, hftrace, hfpanel⟩ := foundDuplicate_reports h (noteRejection .own isCut h s)
    obtain ⟨hfmode, hfline⟩ := foundDuplicate_line h (noteRejection .own isCut h s)
    rw [noteRejection_mode, noteRejection_line] at hfline
    have hown : (noteRejection .own isCut h s).own = s.own ∧ u.own = s.own := by simp [State.own, hus]
    rw [rejectFrame_of_own, if_pos rfl]
    refine ⟨?trace, fun hn => absurd rfl hn, rfl, ?silence, fun hn => absurd rfl hn,
      fun _ => ⟨hfmode, ?counter, fun hmode => ?muted, fun hmode => ?stays⟩, ?frame⟩
    case trace =>
      rw [restartSilence_trace, lineIdle_trace, hftrace, hown.1]
      exact offer_trace_congr _ _ _ _ htrace.symm (by simp [hut]) (by simp [hul]) (by simp [hul])
    case silence =>
      rw [restartSilence_line, lineIdle_line, hfline]
      split <;> rfl
    case counter =>
      rw [restartSilence_line, lineIdle_line, hfline]
      split <;> rfl
    case muted =>
      rw [if_neg hmode] at hfline
      rw [restartSilence_line, lineIdle_line, hfline, hfmode]
      exact ⟨rfl, by simp, rfl, foundDuplicate_muted h (by simpa using hmode)⟩
    case stays =>
      rw [if_pos hmode] at hfline
      rw [restartSilence_line, lineIdle_line, hfline]
    case frame =>
      apply State.ext_fields
      case panel => exact hfpanel.trans (by rw [hpanel']; rfl)
      all_goals simp
  · rw [rejectFrame_of_other _ _ _ hr, if_neg hr]
    refine ⟨htrace.symm, fun _ => hpanel.symm, rfl, ?_, fun _ => ⟨?_, ?_⟩, fun hn => absurd hn hr, ?_⟩
    · simp
    · simp
    · rw [restartSilence_line, lineIdle_eq, htimer, noteRejection_line]
      rfl
    · apply State.ext_fields
      case panel => exact hpanel'
      all_goals simp

end Sys2Proof.Machine
end

section
/-! PROOFS. Frames taken from a peer that end no opportunity (O38, O40 and O41). -/

namespace Sys2Proof.Machine

/-! ### The command of a taken frame -/

/-- The command names the kind of the frame's contents. -/
def FrameCommand (c : Instr) (frame : List RxChar) (b : Body) : Prop :=
  c = .presenceReceived frame ∧ b.kind = .presence ∨ c = .sightingReceived frame ∧ b.kind = .sighting
    ∨ c = .transferReceived frame ∧ b.kind = .transfer

theorem FrameCommand.not_mark {c : Instr} {frame : List RxChar} {b : Body} (h : FrameCommand c frame b) :
    b.kind ≠ .mark := by rcases h with ⟨-, h⟩ | ⟨-, h⟩ | ⟨-, h⟩ <;> simp [h]

theorem exec_of_frameCommand {s : State} {c : Instr} {frame : List RxChar} {src : Station} {final : Bool} {b : Body}
    (hr : s.receives = true) (hj : judge s.profile.stations s.own frame = .taken src final b)
    (hc : FrameCommand c frame b) : exec c s = .next (finish (takeFrame src final b s)) := by
  have h := receive_of_taken hr hj hc.not_mark
  rcases hc with ⟨rfl, hk⟩ | ⟨rfl, hk⟩ | ⟨rfl, hk⟩ <;> rw [hk] at h <;> exact congrArg _ h

/-- The station in the cycle takes a frame into it (R92). -/
def State.InCycle (s : State) : Prop :=
  s.mode = .active ∧ s.line.wakePending = false ∨ s.mode = .mute ∨ s.mode = .resync

theorem State.InCycle.not_listening {s : State} (h : s.InCycle) : s.mode ≠ .listening := by
  rcases h with ⟨h, -⟩ | h | h <;> simp [h]

theorem State.InCycle.awake {s : State} (h : s.InCycle) : s.mode.awake = true := by
  rcases h with ⟨h, -⟩ | h | h <;> simp [h, Mode.awake]

/-- The state into which a frame of the cycle is delivered: the frame counted and traced, the line idle and without a
plan (R90, R99, R103). -/
def State.frameHeard (s : State) (src : Station) (b : Body) : State := abandonPlan (lineIdle (frameIn src b s))

theorem takeFrame_of_cycle {s : State} (h : s.InCycle) (src : Station) (final : Bool) (b : Body) :
    takeFrame src final b s = takeInCycle src final b (s.frameHeard src b) := by
  have hwake : ¬(s.mode = .active ∧ s.line.wakePending = true) := by
    rcases h with ⟨-, h⟩ | h | h <;> simp [h]
  unfold takeFrame
  rw [if_neg hwake, if_neg h.not_listening]
  rfl

theorem takeFrame_of_listening {s : State} (h : s.mode = .listening) (src : Station) (final : Bool) (b : Body) :
    takeFrame src final b s = s.frameHeard src b := by
  unfold takeFrame
  rw [if_neg (by simp [h]), if_pos h]
  rfl

theorem takeFrame_of_wake {s : State} (hm : s.mode = .active) (hw : s.line.wakePending = true) (src : Station)
    (final : Bool) (b : Body) : takeFrame src final b s = takeAfterWake src final b (abandonPlan (lineIdle s)) := by
  unfold takeFrame
  rw [if_pos ⟨hm, hw⟩]

theorem frameHeard_eq (s : State) (src : Station) (b : Body) : s.frameHeard src b = { s with
    line := { s.line with rx := .idle, plan := none, openTimer := s.timerAfterFrame }
    trace := (offer .frameIn (some src) (some b.kind) b.detail s).trace
    counters := { s.counters with framesTaken := satInc s.counters.framesTaken }
    panel := (offer .frameIn (some src) (some b.kind) b.detail s).panel } := by
  rw [← lineIdle_timer s]
  rfl

theorem frameHeard_line (s : State) (src : Station) (b : Body) : (s.frameHeard src b).line
    = { s.line with rx := .idle, plan := none, openTimer := s.timerAfterFrame } := by rw [frameHeard_eq]

/-! ### The contents of a frame (R92) -/

theorem Body.presence_of_kind {b : Body} (h : b.kind = .presence) : ∃ p, b = .presence p := by
  cases b <;> simp_all [Body.kind]

theorem Body.sighting_of_kind {b : Body} (h : b.kind = .sighting) : ∃ g, b = .sighting g := by
  cases b <;> simp_all [Body.kind]

/-- Where a frame's contents go that are not a TRANSFER frame's to stage (R21, R92, R116, R117). -/
theorem deliver_presence (src : Station) (p : Presence) (s : State) : deliver src (.presence p) s = { s with
    roster := { s.roster with entries := s.roster.entries.modify src.val (fun e => { e with
      heard := true, last := some p, takenIn := some s.line.cycle
      profile := if p.profileDigest = s.profileDigest then .same else .mismatch }) } } := by
  show { s with roster := (s.roster.hear src).record src p s.line.cycle s.profileDigest } = _
  rw [record_hear]

/-- In RESYNC a frame other than a PRESENCE is only heard (R111). -/
theorem deliver_of_resync {b : Body} {s : State} (hm : s.mode = .resync) (h1 : b.kind ≠ .presence)
    (h2 : b.kind ≠ .mark) (src : Station) : deliver src b s = hear src s := by
  cases b <;> simp_all [deliver, Body.kind]

theorem deliver_sighting {s : State} (hm : s.mode ≠ .resync) (src : Station) (g : Sighting) :
    deliver src (.sighting g) s = addSighting g (hear src s) := if_neg hm

theorem deliver_transfer {s : State} (hm : s.mode ≠ .resync) (src : Station) (f : TransferBody) :
    deliver src (.transfer f) s = takeTransfer src f (hear src s) := if_neg hm

/-- A frame other than a PRESENCE marks its source heard and no more in the Roster. -/
theorem deliver_roster {b : Body} (h1 : b.kind ≠ .presence) (h2 : b.kind ≠ .mark) (src : Station) (s : State) :
    (deliver src b s).roster = { s.roster with
      entries := s.roster.entries.modify src.val (fun e => { e with heard := true }) } := by
  by_cases hm : s.mode = .resync
  · rw [deliver_of_resync hm h1 h2]
    rfl
  · cases b with
    | mark m => exact absurd rfl h2
    | presence p => exact absurd rfl h1
    | sighting g => rw [deliver_sighting hm, addSighting_roster]; rfl
    | transfer f => rw [deliver_transfer hm, takeTransfer_roster]; rfl

/-! ### A frame in its opportunity (O38) -/

theorem alignTo_of_own_opportunity {s : State} {src : Station} (h : s.line.opp = .number src.val) (k : FrameKind) :
    alignTo src k s = s := by simp [alignTo, State.disagrees, h]

/-- A frame of the running opportunity that does not end it: its contents are delivered and the silence timer restarts. -/
theorem finish_takeInCycle_more {s : State} {src : Station} (b : Body) (h : s.line.opp = .number src.val) :
    finish (takeInCycle src false b s) = { deliver src b (resyncCycle b s) with line := { s.line with
      cycle := if s.mode = .resync then b.cycleInResync s.line.cycle else s.line.cycle
      silence := true, oppFrames := true, openFresh := false } } := by
  have hopp : (deliver src b (resyncCycle b s)).line.opp = .number src.val := by rw [deliver_line]; exact h
  unfold takeInCycle
  rw [alignTo_of_own_opportunity h, finish_frameOver_more hopp, deliver_line]
  rfl

theorem cycleInResync_of_other {b : Body} (h : b.kind ≠ .presence) (c : Word16) : b.cycleInResync c = c := by
  cases b <;> simp_all [Body.kind, Body.cycleInResync]

/-- Settles O38. -/
theorem peerFrameIsTakenInItsOpportunity : Obligations.PeerFrameIsTakenInItsOpportunity := by
  intro s c frame src b backoff h0 htx hrx hj hc hbackoff
  obtain rfl : backoff = s.timerAfterFrame := hbackoff
  have hcmd : FrameCommand c frame b := by
    rcases hc with h | h | ⟨h1, h2, -⟩
    exacts [.inl h, .inr (.inl h), .inr (.inr ⟨h1, h2⟩)]
  refine ⟨fun hcycle hopp => ?taken, fun hlisten => ?heard⟩
  case heard =>
    refine ⟨_, exec_of_frameCommand (receives_of h0 (by simp [hlisten, Mode.awake]) htx hrx) hj hcmd, ?_⟩
    rw [takeFrame_of_listening hlisten, finish_of_not_ready (lullReady_of_mode (by simp [frameHeard_eq, hlisten])),
      frameHeard_eq]
    exact ⟨rfl, rfl, rfl⟩
  case taken =>
    have hcycle : s.InCycle := hcycle
    refine ⟨_, exec_of_frameCommand (receives_of h0 hcycle.awake htx hrx) hj hcmd, ?_⟩
    rw [takeFrame_of_cycle hcycle, finish_takeInCycle_more b (by rw [frameHeard_line]; exact hopp)]
    have hmode : (resyncCycle b (s.frameHeard src b)).mode = s.mode := rfl
    by_cases hp : b.kind = .presence
    · obtain ⟨p, rfl⟩ := Body.presence_of_kind hp
      rw [deliver_presence, frameHeard_eq]
      refine ⟨rfl, rfl, fun h => ?_, fun p' hp => ?_, fun h => absurd rfl h, fun h => absurd rfl h,
        fun g o h => ?_, rfl, rfl⟩
      · exact if_neg (h.resolve_right (fun h' => h' rfl))
      · cases hp
        exact ⟨fun hm => if_pos hm, rfl, rfl, rfl⟩
      · cases h
    have hcyc : (if s.mode = .resync then b.cycleInResync s.line.cycle else s.line.cycle) = s.line.cycle := by
      rw [cycleInResync_of_other hp, ite_self]
    have hnp : ∀ p, b ≠ .presence p := fun p h => hp (by rw [h]; rfl)
    by_cases hm : s.mode = .resync
    · rw [deliver_of_resync (hmode.trans hm) hp hcmd.not_mark, frameHeard_eq]
      exact ⟨rfl, rfl, fun _ => hcyc, fun p h => absurd h (hnp p), fun _ => rfl, fun _ _ => ⟨rfl, rfl⟩,
        fun g o _ h => absurd hm h, rfl, rfl⟩
    · obtain ⟨g, rfl⟩ : ∃ g, b = .sighting g := by
        rcases hc with ⟨-, h⟩ | ⟨-, h⟩ | ⟨-, -, h | h⟩
        · exact absurd h hp
        · exact Body.sighting_of_kind h
        · exact absurd h hm
        · exact absurd h hcycle.not_listening
      rw [deliver_sighting (fun h => hm (hmode.symm.trans h)), frameHeard_eq]
      refine ⟨by simp, rfl, fun _ => hcyc, fun p h => absurd h (hnp p), fun _ => by rw [addSighting_roster]; rfl,
        fun _ h => absurd h hm, fun g' o hg _ ho => ?label, by simp, ?frame⟩
      case frame =>
        apply State.ext_fields
        case panel =>
          simp only [addSighting_panel]
          rfl
        all_goals simp
      cases hg
      refine ⟨fun hlen => ?_, fun hlen => ?_⟩
      · rw [addSighting_room g (by exact ho) hlen]
        exact ⟨rfl, rfl⟩
      · rw [addSighting_full g (by exact ho) hlen]
        exact ⟨rfl, rfl⟩

/-! ### The first frame after a wake (O40) -/

/-- The state that the first frame after a wake is delivered into (R110, R111). -/
def State.wakeEnded (s : State) (src : Station) (b : Body) : State := enterResync src b (abandonPlan (lineIdle s))

/-- The line as RESYNC is entered (R110, R111). -/
theorem wakeEnded_line (s : State) (src : Station) (b : Body) : (s.wakeEnded src b).line = { s.line with
    cycle := b.cycleInResync s.line.cycle, wakePending := false, opp := .number src.val, openTimer := .stopped
    oppFrames := false, rx := .idle, plan := none } := rfl

theorem wakeEnded_counters (s : State) (src : Station) (b : Body) : (s.wakeEnded src b).counters = { s.counters with
    framesTaken := satInc s.counters.framesTaken, missedMarks := satInc s.counters.missedMarks } := rfl

theorem takeFrame_of_wake_eq {s : State} (hm : s.mode = .active) (hw : s.line.wakePending = true) (src : Station)
    (final : Bool) (b : Body) : takeFrame src final b s = frameOver final (deliver src b (s.wakeEnded src b)) :=
  takeFrame_of_wake hm hw src final b

/-- A frame heard in RESYNC changes the Roster alone. -/
theorem deliver_resync_frame {b : Body} {s : State} (hm : s.mode = .resync) (hk : b.kind ≠ .mark) (src : Station) :
    deliver src b s = { s with roster := (deliver src b s).roster } := by
  by_cases hp : b.kind = .presence
  · obtain ⟨p, rfl⟩ := Body.presence_of_kind hp
    rfl
  · rw [deliver_of_resync hm hp hk]
    rfl

theorem deliver_resync_entry {b : Body} {s : State} {e : RosterEntry} {src : Station} (hm : s.mode = .resync)
    (hk : b.kind ≠ .mark) (he : s.roster.entries[src.val]? = some e) :
    ∃ e', (deliver src b s).roster.entries[src.val]? = some e' ∧ e'.heard = true
      ∧ ∀ p, b = .presence p → e'.last = some p ∧ e'.takenIn = some s.line.cycle := by
  by_cases hp : b.kind = .presence
  · obtain ⟨p, rfl⟩ := Body.presence_of_kind hp
    rw [deliver_presence]
    refine ⟨_, by simp only [List.getElem?_modify_eq, he]; rfl, rfl, fun p' h => ?_⟩
    cases h
    exact ⟨rfl, rfl⟩
  · rw [deliver_of_resync hm hp hk]
    refine ⟨{ e with heard := true }, ?_, rfl, fun p h => absurd (by rw [h]; rfl) hp⟩
    show (s.roster.entries.modify src.val _)[src.val]? = _
    simp only [List.getElem?_modify_eq, he]
    rfl

theorem cycleInResync_eq (b : Body) (c : Word16) :
    b.cycleInResync c = match b with | .presence p => p.cycle | _ => c := by cases b <;> rfl

/-- Settles O40. -/
theorem firstFrameAfterAWakeEntersResync : Obligations.FirstFrameAfterAWakeEntersResync := by
  intro s c frame src b h0 hm hw htx hrx hj hc
  have hcmd : FrameCommand c frame b := hc
  refine ⟨_, exec_of_frameCommand (receives_of h0 (by rw [hm]; rfl) htx hrx) hj hcmd, ?_⟩
  have hresync : (s.wakeEnded src b).mode = .resync := enterResync_mode _ _ _
  rw [takeFrame_of_wake_eq hm hw, finish_frameOver_more (k := src.val) (by rw [deliver_line]; rfl),
    deliver_resync_frame hresync hcmd.not_mark, wakeEnded_line, cycleInResync_eq]
  refine ⟨rfl, rfl, rfl, rfl, rfl, fun e he => ?_, ⟨_, rfl, ?_⟩, rfl⟩
  · obtain ⟨e', hget, hheard, hp⟩ := deliver_resync_entry hresync hcmd.not_mark
      (show (s.wakeEnded src b).roster.entries[src.val]? = some e from he)
    refine ⟨e', hget, hheard, fun p hb => ?_⟩
    obtain ⟨h1, h2⟩ := hp p hb
    subst hb
    exact ⟨h1, h2⟩
  · cases b <;> rfl

end Sys2Proof.Machine
end

section
/-! PROOFS. TRANSFER frames: ignored, staged or discarded (O41). -/

namespace Sys2Proof.Machine

/-! ### The Agreement Unit's answer to a TRANSFER frame (R141 to R143) -/

theorem ignores_iff (s : State) (src : Station) (t : TransferBody) : s.ignores src t = true
    ↔ s.agree.state = .agreed ∨ s.agree.installed = true ∨ s.agree.staging.held = true
      ∨ s.agree.staging.discarded = true
      ∨ s.agree.staging.active = false ∧ (src ∉ s.agree.group ∨ t.label ≠ s.line.cycle - 1) := by
  simp [State.ignores, or_assoc]

theorem takeTransfer_of_ignored {s : State} {src : Station} {t : TransferBody} (h : s.ignores src t = true) :
    takeTransfer src t s = ignoreTransfer s := if_pos h

theorem takeTransfer_of_active {s : State} {src : Station} {t : TransferBody} (h : s.ignores src t = false)
    (ha : s.agree.staging.active = true) : takeTransfer src t s = addToStaging src t s := by
  simp [takeTransfer, h, ha]

theorem takeTransfer_of_inactive {s : State} {src : Station} {t : TransferBody} (h : s.ignores src t = false)
    (ha : s.agree.staging.active = false) : takeTransfer src t s
      = addToStaging src t { s with agree := { s.agree with staging := Staging.opened src t } } := by
  simp [takeTransfer, h, ha]

theorem addToStaging_of_fault {s : State} {src : Station} {t : TransferBody} {r : DiscardReason}
    (h : s.agree.staging.fault src t = some r) : addToStaging src t s = discardStaging r s := by
  rw [addToStaging, h]

theorem addToStaging_of_fit {s : State} {src : Station} {t : TransferBody} (h : s.agree.staging.fault src t = none) :
    addToStaging src t s = { s with agree := { s.agree with staging := s.agree.staging.accept t } } := by
  rw [addToStaging, h]

/-- The frame belongs to the snapshot that is staged (R143). -/
theorem differs_eq_false_iff (g : Staging) (src : Station) (t : TransferBody) : g.differs src t = false
    ↔ (g.source, g.label, g.digest, g.nextId, g.expected) = (src, t.label, t.digest, t.nextId, t.count) := by
  simp [Staging.differs, and_assoc]

theorem differs_iff (g : Staging) (src : Station) (t : TransferBody) : g.differs src t = true
    ↔ g.source ≠ src ∨ g.label ≠ t.label ∨ g.digest ≠ t.digest ∨ g.nextId ≠ t.nextId ∨ g.expected ≠ t.count := by
  simp [Staging.differs, or_assoc]

theorem fault_of_differs {g : Staging} {src : Station} {t : TransferBody} (h : g.differs src t = true) :
    g.fault src t = some .mismatch := if_pos h

theorem fault_of_slot {g : Staging} {src : Station} {t : TransferBody} {i : Fin 8} {x : Front}
    (h : g.differs src t = false) (ht : t.slot = some (i, x)) : g.fault src t
      = if g.residue = 0 then some .mismatch else if i ∈ g.received then some .repeated else none := by
  simp [Staging.fault, h, ht]

theorem fault_of_no_slot {g : Staging} {src : Station} {t : TransferBody} (h : g.differs src t = false)
    (ht : t.slot = none) : g.fault src t = if g.noneReceived = true then some .repeated else none := by
  simp [Staging.fault, h, ht]

/-- The first frame of a snapshot opens the staging that it describes. -/
theorem opened_differs (src : Station) (t : TransferBody) : (Staging.opened src t).differs src t = false := by
  simp [differs_eq_false_iff, Staging.opened]

/-- The record that a frame leaves, where it opens a staging or extends the active one (R142, R143). -/
def StagedAs (g : Staging) (src : Station) (f : TransferBody) (h : Staging) : Prop :=
  g.active = false ∧ (∃ i r, f.slot = some (i, r) ∧ 0 < f.count ∧ h = (Staging.opened src f).accept f)
    ∨ g.active = false ∧ f.slot = none ∧ h = (Staging.opened src f).accept f
    ∨ g.active = true ∧ g.fault src f = none ∧ h = g.accept f

theorem takeTransfer_of_stagedAs {s : State} {src : Station} {f : TransferBody} {g : Staging}
    (h : s.ignores src f = false) (hg : StagedAs s.agree.staging src f g) :
    takeTransfer src f s = { s with agree := { s.agree with staging := g } } := by
  rcases hg with ⟨ha, i, r, hslot, hcount, rfl⟩ | ⟨ha, hslot, rfl⟩ | ⟨ha, hfault, rfl⟩
  · have hfit : (Staging.opened src f).fault src f = none := by
      rw [fault_of_slot (opened_differs src f) hslot]
      simp [Staging.opened, Nat.pos_iff_ne_zero.1 hcount]
    rw [takeTransfer_of_inactive h ha, addToStaging_of_fit hfit]
  · have hfit : (Staging.opened src f).fault src f = none := by
      rw [fault_of_no_slot (opened_differs src f) hslot]
      rfl
    rw [takeTransfer_of_inactive h ha, addToStaging_of_fit hfit]
  · rw [takeTransfer_of_active h ha, addToStaging_of_fit hfault]

/-- The records that R142 and R143 give, written out. -/
theorem stagedAs_of_frame {s g : Staging} {src : Station} {f : TransferBody}
    (hg : s.active = false ∧ ((∃ i r, f.slot = some (i, r) ∧ 0 < f.count ∧ g = {
            active := true, source := src, label := f.label, digest := f.digest, nextId := f.nextId
            expected := f.count, received := [i], noneReceived := false, residue := f.count - 1
            staged := [(i, r)], held := false, discarded := false })
          ∨ f.slot = none ∧ g = {
            active := true, source := src, label := f.label, digest := f.digest, nextId := f.nextId
            expected := f.count, received := [], noneReceived := true, residue := f.count, staged := []
            held := false, discarded := false })
      ∨ s.active = true ∧ (s.source, s.label, s.digest, s.nextId, s.expected)
          = (src, f.label, f.digest, f.nextId, f.count)
        ∧ ((∃ i r, f.slot = some (i, r) ∧ i ∉ s.received ∧ 0 < s.residue
            ∧ g = { s with received := s.received ++ [i], staged := s.staged ++ [(i, r)], residue := s.residue - 1 })
          ∨ f.slot = none ∧ s.noneReceived = false ∧ g = { s with noneReceived := true })) :
    StagedAs s src f g := by
  rcases hg with ⟨ha, ⟨i, r, hslot, hcount, rfl⟩ | ⟨hslot, rfl⟩⟩ | ⟨ha, hsame, hg⟩
  · exact .inl ⟨ha, i, r, hslot, hcount, by simp [Staging.opened, Staging.accept, hslot]⟩
  · exact .inr (.inl ⟨ha, hslot, by simp [Staging.opened, Staging.accept, hslot]⟩)
  · have hdiffers := (differs_eq_false_iff _ _ _).2 hsame
    rcases hg with ⟨i, r, hslot, hnew, hres, rfl⟩ | ⟨hslot, hnone, rfl⟩
    · refine .inr (.inr ⟨ha, ?_, by simp [Staging.accept, hslot]⟩)
      rw [fault_of_slot hdiffers hslot, if_neg (Nat.ne_of_gt hres), if_neg hnew]
    · refine .inr (.inr ⟨ha, ?_, by simp [Staging.accept, hslot]⟩)
      rw [fault_of_no_slot hdiffers hslot, if_neg (by simp [hnone])]

/-- The reasons that R143 gives, written out. -/
theorem fault_of_frame {s : Staging} {src : Station} {f : TransferBody} {r : DiscardReason}
    (h : r = .mismatch ∧ ((s.source ≠ src ∨ s.label ≠ f.label ∨ s.digest ≠ f.digest ∨ s.nextId ≠ f.nextId
          ∨ s.expected ≠ f.count) ∨ f.slot ≠ none ∧ s.residue = 0)
      ∨ r = .repeated ∧ (s.source, s.label, s.digest, s.nextId, s.expected)
          = (src, f.label, f.digest, f.nextId, f.count)
        ∧ ((∃ i x, f.slot = some (i, x) ∧ 0 < s.residue ∧ i ∈ s.received) ∨ f.slot = none ∧ s.noneReceived = true)) :
    s.fault src f = some r := by
  rcases h with ⟨rfl, hother | ⟨hslot, hres⟩⟩ | ⟨rfl, hsame, ⟨i, x, hslot, hres, hold⟩ | ⟨hslot, hnone⟩⟩
  · exact fault_of_differs ((differs_iff _ _ _).2 hother)
  · obtain ⟨⟨i, x⟩, hx⟩ := Option.ne_none_iff_exists'.1 hslot
    cases hd : s.differs src f with
    | true => exact fault_of_differs hd
    | false => rw [fault_of_slot hd hx, if_pos hres]
  · rw [fault_of_slot ((differs_eq_false_iff _ _ _).2 hsame) hslot, if_neg (Nat.ne_of_gt hres), if_pos hold]
  · rw [fault_of_no_slot ((differs_eq_false_iff _ _ _).2 hsame) hslot, if_pos hnone]

/-- Only a PRESENCE can set the cycle number. -/
theorem resyncCycle_of_other {b : Body} (h : b.kind ≠ .presence) (s : State) : resyncCycle b s = s := by
  unfold resyncCycle
  rw [cycleInResync_of_other h, ite_self]

theorem frameHeard_reports (s : State) (src : Station) (b : Body) :
    (s.frameHeard src b).trace = (offer .frameIn (some src) (some b.kind) b.detail s).trace
      ∧ (s.frameHeard src b).panel = (offer .frameIn (some src) (some b.kind) b.detail s).panel
      ∧ (s.frameHeard src b).counters = { s.counters with framesTaken := satInc s.counters.framesTaken } :=
  ⟨rfl, rfl, rfl⟩

/-- A discard is counted and traced, and its reports depend on the trace and the place in the cycle alone (R143). -/
theorem discardStaging_reports {s u : State} (r : DiscardReason) (ht : s.trace = u.trace) (hp : s.panel = u.panel)
    (hl : s.time.localTick = u.time.localTick) (hc : s.line.cycle = u.line.cycle) (ho : s.line.opp = u.line.opp) :
    ((discardStaging r s).trace, (discardStaging r s).panel)
      = ((offer .transferDiscarded (some s.agree.staging.source) (some .transfer) (.discard r) u).trace,
        (offer .transferDiscarded (some s.agree.staging.source) (some .transfer) (.discard r) u).panel) := by
  simp only [discardStaging, offer_trace, offer_panel, State.entryFor, ht, hp, hl, hc, ho]

/-- A TRANSFER frame raises events alone in the Panel Port. -/
theorem takeTransfer_panel (src : Station) (t : TransferBody) (s : State) :
    (takeTransfer src t s).panel = { s.panel with events := (takeTransfer src t s).panel.events } := by
  unfold takeTransfer addToStaging
  repeat' split
  all_goals rfl

/-- Settles O41. -/
theorem transferFramesAreIgnoredStagedOrDiscarded : Obligations.TransferFramesAreIgnoredStagedOrDiscarded := by
  intro s frame src f h0 htx hrx hj hmode hopp
  have hcycle : s.InCycle := hmode.imp id .inl
  have hnr : s.mode ≠ .resync := by rcases hmode with ⟨h, -⟩ | h <;> simp [h]
  have hexec := exec_of_frameCommand (receives_of h0 hcycle.awake htx hrx) hj
    (show FrameCommand (.transferReceived frame) frame (.transfer f) from .inr (.inr ⟨rfl, rfl⟩))
  rw [takeFrame_of_cycle hcycle, finish_takeInCycle_more _ (by rw [frameHeard_line]; exact hopp),
    resyncCycle_of_other (by simp [Body.kind]), deliver_transfer (s := s.frameHeard src (.transfer f)) hnr] at hexec
  obtain ⟨u, hu⟩ : ∃ u, u = hear src (s.frameHeard src (.transfer f)) := ⟨_, rfl⟩
  obtain ⟨htrace, hpanel, hcounters⟩ := frameHeard_reports s src (.transfer f)
  have hutrace : u.trace = (offer .frameIn (some src) (some .transfer) (.count f.count) s).trace := by
    rw [hu, hear_trace, htrace]; rfl
  have hupanel : u.panel = (offer .frameIn (some src) (some .transfer) (.count f.count) s).panel := by
    rw [hu, hear_panel, hpanel]; rfl
  have hucounters : u.counters = { s.counters with framesTaken := satInc s.counters.framesTaken } := by
    rw [hu, hear_counters, hcounters]
  have hign_eq : u.ignores src f = s.ignores src f := by rw [hu]; rfl
  have hagree : u.agree = s.agree := by rw [hu]; rfl
  rw [← hu] at hexec
  refine ⟨_, offer .frameIn (some src) (some .transfer) (.count f.count) s,
    { s.counters with framesTaken := satInc s.counters.framesTaken }, hexec, rfl, rfl, ?line, ?roster, fun hign => ?ignored,
    fun h1 h2 h3 h4 => ⟨fun g hg => ?staged, fun r v ha hr hv => ?discarded⟩, ?frame⟩
  all_goals clear hexec
  case line =>
    rw [← timerAfterFrame_of_cycle hcycle.not_listening, frameHeard_line]
    simp [Body.cycleInResync]
  case roster =>
    simp only [takeTransfer_roster, hu]
    rfl
  case ignored =>
    rw [takeTransfer_of_ignored (hign_eq.trans ((ignores_iff _ _ _).2 hign))]
    simp [hagree, hutrace, hupanel, hucounters, ignoreTransfer]
  case staged =>
    have hfree : s.ignores src f = false := by
      rw [Bool.eq_false_iff, ne_eq, ignores_iff]
      rcases hg with ⟨ha, hsrc, hlabel, -⟩ | ⟨ha, -⟩
      · simp [h1, h2, h3, h4, hsrc, hlabel]
      · simp [h1, h2, h3, h4, ha]
    have hstaged := stagedAs_of_frame (hg.imp (fun ⟨ha, _, _, h⟩ => ⟨ha, h⟩) id)
    rw [takeTransfer_of_stagedAs (hign_eq.trans hfree) (by rw [hagree]; exact hstaged)]
    simp only [hagree, hutrace, hupanel, hucounters, and_self]
  case discarded =>
    have hfault := fault_of_frame hr
    have hfree : s.ignores src f = false := by
      rw [Bool.eq_false_iff, ne_eq, ignores_iff]
      simp [h1, h2, h3, h4, ha]
    rw [takeTransfer_of_active (hign_eq.trans hfree) (by rw [hagree]; exact ha),
      addToStaging_of_fault (by rw [hagree]; exact hfault)]
    have hreports := discardStaging_reports (s := u) (u := offer .frameIn (some src) (some .transfer) (.count f.count) s)
      r hutrace hupanel (by rw [hu]; rfl) (by rw [hu]; rfl) (by rw [hu]; rfl)
    refine ⟨?_, ?_, ?_⟩
    · simp [discardStaging, hagree, Staging.cleared]
    · simp [discardStaging, hucounters]
    · rw [hv, ← hagree]
      exact hreports
  case frame =>
    apply State.ext_fields
    case panel => rw [takeTransfer_panel, hupanel]; rfl
    all_goals simp [hu, State.frameHeard]

end Sys2Proof.Machine
end

section
/-! PROOFS. What a taken frame delivers, and how the end of an opportunity settles its staging (for O39 and O42). -/

namespace Sys2Proof.Machine

/-! ### The settling of a staging (R144) -/

/-- The reason for which a staging is discarded as its opportunity ends, if any (R144). -/
def Staging.endFault (g : Staging) (zoneCount : Nat) : Option DiscardReason :=
  if 0 < g.residue then some .incomplete
  else if idsClash (g.slots zoneCount) then some .idClash
  else if tableDigest (g.slots zoneCount) g.nextId ≠ g.digest then some .digest
  else none

theorem endFault_of_fault {g : Staging} {zoneCount : Nat} (h : 0 < g.residue ∨ idsClash (g.slots zoneCount) = true
    ∨ tableDigest (g.slots zoneCount) g.nextId ≠ g.digest) : g.endFault zoneCount
      = some (if 0 < g.residue then .incomplete else if idsClash (g.slots zoneCount) then .idClash else .digest) := by
  unfold Staging.endFault
  by_cases h1 : 0 < g.residue
  · rw [if_pos h1, if_pos h1]
  · rw [if_neg h1, if_neg h1]
    by_cases h2 : idsClash (g.slots zoneCount) = true
    · rw [if_pos h2, if_pos h2]
    · rw [if_neg h2, if_neg h2, if_pos ((h.resolve_left h1).resolve_left h2)]

theorem endFault_of_complete {g : Staging} {zoneCount : Nat} (h1 : g.residue = 0)
    (h2 : idsClash (g.slots zoneCount) = false) (h3 : tableDigest (g.slots zoneCount) g.nextId = g.digest) :
    g.endFault zoneCount = none := by simp [Staging.endFault, h1, h2, h3]

theorem settleActive_of_fault {s : State} {r : DiscardReason} (h : s.agree.staging.endFault s.profile.zoneCount = some r) :
    settleActive s = discardStaging r s := by
  unfold Staging.endFault at h
  unfold settleActive
  split_ifs at h with h1 h2 h3 <;> simp_all

theorem settleActive_of_complete {s : State} (h : s.agree.staging.endFault s.profile.zoneCount = none) : settleActive s
    = if s.fusion.fusing.isSome then { s with agree := { s.agree with staging := { s.agree.staging with held := true } } }
      else install s := by
  unfold Staging.endFault at h
  unfold settleActive
  split_ifs at h with h1 h2 h3
  simp [h1, h2, h3]

theorem settleStaging_discards {s : State} {r : DiscardReason} (ha : s.agree.staging.active = true)
    (hh : s.agree.staging.held = false) (h : s.agree.staging.endFault s.profile.zoneCount = some r) :
    settleStaging s = clearDiscarded (discardStaging r s) := by
  rw [settleStaging_of_active ha hh, settleActive_of_fault h]

theorem settleStaging_holds {s : State} (ha : s.agree.staging.active = true) (hh : s.agree.staging.held = false)
    (h : s.agree.staging.endFault s.profile.zoneCount = none) (hf : s.fusion.fusing.isSome = true) : settleStaging s
      = { s with agree := { s.agree with staging := { s.agree.staging with held := true, discarded := false } } } := by
  rw [settleStaging_of_active ha hh, settleActive_of_complete h, if_pos hf]
  rfl

theorem settleStaging_installs {s : State} (ha : s.agree.staging.active = true) (hh : s.agree.staging.held = false)
    (h : s.agree.staging.endFault s.profile.zoneCount = none) (hf : s.fusion.fusing = none) :
    settleStaging s = clearDiscarded (install s) := by
  rw [settleStaging_of_active ha hh, settleActive_of_complete h, if_neg (by simp [hf])]

/-! ### What a delivery changes -/

/-- In a cycle only a station in MUTE opens none at its end. -/
theorem State.InCycle.opens {s : State} (h : s.InCycle) {α : Type} (a b : α) :
    (if s.mode = .active ∨ s.mode = .resync then a else b) = if s.mode = .mute then b else a := by
  rcases h with ⟨h, -⟩ | h | h <;> simp [h]

/-- A delivery changes no counter but those of refused sightings and of transfers, the OPEN label alone of the Sighting
Queue, and events alone in the Panel Port. -/
theorem deliver_counters (src : Station) (b : Body) (s : State) : (deliver src b s).counters = { s.counters with
      sightingsRefused := (deliver src b s).counters.sightingsRefused
      transfersIgnored := (deliver src b s).counters.transfersIgnored
      transfersDiscarded := (deliver src b s).counters.transfersDiscarded }
    ∧ (deliver src b s).fusion = { s.fusion with openLabel := (deliver src b s).fusion.openLabel }
    ∧ (deliver src b s).panel = { s.panel with events := (deliver src b s).panel.events } := by
  unfold deliver addSighting takeTransfer addToStaging
  repeat' split
  all_goals exact ⟨rfl, rfl, rfl⟩

/-- Where a sighting goes, and what other frames leave alone (R21, R22). -/
theorem deliver_sightings (src : Station) (b : Body) (s : State) :
    (s.mode = .resync ∨ b.kind ≠ .sighting ∨ s.fusion.openLabel = none →
      (deliver src b s).fusion.openLabel = s.fusion.openLabel
      ∧ (deliver src b s).counters.sightingsRefused = s.counters.sightingsRefused)
    ∧ (∀ x o, b = .sighting x → s.mode ≠ .resync → s.fusion.openLabel = some o →
      (o.sightings.length < 32 → (deliver src b s).fusion.openLabel = some { o with sightings := o.sightings ++ [x] }
        ∧ (deliver src b s).counters.sightingsRefused = s.counters.sightingsRefused)
      ∧ (32 ≤ o.sightings.length → (deliver src b s).fusion.openLabel = some o
        ∧ (deliver src b s).counters.sightingsRefused = satInc s.counters.sightingsRefused)) := by
  have htransfer : ∀ (f : TransferBody) (u : State),
      (takeTransfer src f u).counters.sightingsRefused = u.counters.sightingsRefused := by
    intro f u
    unfold takeTransfer addToStaging
    repeat' split
    all_goals rfl
  refine ⟨fun h => ?_, fun x o hx hm ho => ?_⟩
  · cases b with
    | mark m => exact ⟨rfl, rfl⟩
    | presence p => exact ⟨rfl, rfl⟩
    | sighting g =>
      by_cases hm : s.mode = .resync
      · rw [deliver_of_resync hm (by simp [Body.kind]) (by simp [Body.kind])]
        exact ⟨rfl, rfl⟩
      · have ho : s.fusion.openLabel = none := (h.resolve_left hm).resolve_left (by simp [Body.kind])
        rw [deliver_sighting hm, addSighting_closed (s := hear src s) g ho]
        exact ⟨rfl, rfl⟩
    | transfer f =>
      by_cases hm : s.mode = .resync
      · rw [deliver_of_resync hm (by simp [Body.kind]) (by simp [Body.kind])]
        exact ⟨rfl, rfl⟩
      · rw [deliver_transfer hm]
        exact ⟨by simp, htransfer f _⟩
  · subst hx
    rw [deliver_sighting hm]
    exact addSighting_openLabel (s := hear src s) x ho

/-- A PRESENCE is recorded with the cycle number it is taken in; another frame marks its source heard (R92, R117). -/
theorem deliver_rosters (src : Station) {b : Body} (hk : b.kind ≠ .mark) (s : State) :
    (∀ p, b = .presence p → (deliver src b s).roster = { s.roster with
      entries := s.roster.entries.modify src.val (fun e => { e with
        heard := true, last := some p, takenIn := some s.line.cycle
        profile := if p.profileDigest = s.profileDigest then .same else .mismatch }) })
    ∧ (b.kind ≠ .presence → (deliver src b s).roster = { s.roster with
      entries := s.roster.entries.modify src.val (fun e => { e with heard := true }) }) := by
  refine ⟨fun p hp => ?_, fun hp => deliver_roster hp hk src s⟩
  subst hp
  rw [deliver_presence]

/-! ### What a TRANSFER frame stages -/

/-- The state after the Agreement Unit has taken a frame's contents (R141). -/
def State.staged (s : State) (src : Station) (b : Body) : State :=
  match b with
  | .transfer f => if s.mode = .resync then s else takeTransfer src f s
  | _ => s

/-- What the Agreement Unit makes of a frame depends on its own state, the counters, the trace and the place in the
cycle. -/
structure SameReach (s u : State) : Prop where
  agree : s.agree = u.agree
  trace : s.trace = u.trace
  counters : s.counters = u.counters
  panel : s.panel = u.panel
  tick : s.time.localTick = u.time.localTick
  cycle : s.line.cycle = u.line.cycle
  opp : s.line.opp = u.line.opp

theorem SameReach.offer {s u : State} (h : SameReach s u) (k : TraceKind) (src : Option Station) (fr : Option FrameKind)
    (d : Detail) : SameReach (offer k src fr d s) (offer k src fr d u) := by
  obtain ⟨h1, h2, h3, h4, h5, h6, h7⟩ := h
  refine ⟨h1, ?_, h3, ?_, h5, h6, h7⟩
  · simp only [offer_trace, State.entryFor, h2, h5, h6, h7]
  · simp only [offer_panel, State.entryFor, h2, h4, h5, h6, h7]

theorem SameReach.discardStaging {s u : State} (h : SameReach s u) (r : DiscardReason) :
    SameReach (discardStaging r s) (discardStaging r u) := by
  obtain ⟨h1, h2, h3, h4, h5, h6, h7⟩ := h
  unfold Machine.discardStaging
  rw [h1]
  apply SameReach.offer
  exact ⟨rfl, h2, by simp only [h3], h4, h5, h6, h7⟩

theorem SameReach.addToStaging {s u : State} (h : SameReach s u) (src : Station) (t : TransferBody) :
    SameReach (addToStaging src t s) (addToStaging src t u) := by
  unfold Machine.addToStaging
  rw [h.agree]
  split
  · exact h.discardStaging _
  · exact ⟨rfl, h.trace, h.counters, h.panel, h.tick, h.cycle, h.opp⟩

theorem SameReach.takeTransfer {s u : State} (h : SameReach s u) (src : Station) (t : TransferBody) :
    SameReach (takeTransfer src t s) (takeTransfer src t u) := by
  have hign : s.ignores src t = u.ignores src t := by simp only [State.ignores, h.agree, h.cycle]
  unfold Machine.takeTransfer
  rw [hign, h.agree]
  split_ifs
  · exact ⟨h.agree, h.trace, by simp only [ignoreTransfer, h.counters], h.panel, h.tick, h.cycle, h.opp⟩
  · exact h.addToStaging src t
  · apply SameReach.addToStaging
    exact ⟨rfl, h.trace, h.counters, h.panel, h.tick, h.cycle, h.opp⟩

theorem addSighting_counters (g : Sighting) (s : State) : (addSighting g s).counters
    = { s.counters with sightingsRefused := (addSighting g s).counters.sightingsRefused } := by
  unfold addSighting
  repeat' split
  all_goals rfl

/-- A delivery does for the Agreement Unit what its own step does. -/
theorem deliver_staged (src : Station) (b : Body) (s : State) : (deliver src b s).agree = (s.staged src b).agree
    ∧ (deliver src b s).trace = (s.staged src b).trace ∧ (deliver src b s).panel = (s.staged src b).panel
    ∧ (deliver src b s).counters = { (s.staged src b).counters with
        sightingsRefused := (deliver src b s).counters.sightingsRefused } := by
  cases b with
  | mark m => exact ⟨rfl, rfl, rfl, rfl⟩
  | presence p => exact ⟨rfl, rfl, rfl, rfl⟩
  | sighting g =>
    by_cases hm : s.mode = .resync
    · rw [deliver_of_resync hm (by simp [Body.kind]) (by simp [Body.kind])]
      exact ⟨rfl, rfl, rfl, rfl⟩
    · rw [deliver_sighting hm]
      refine ⟨by rw [addSighting_agree]; rfl, by rw [addSighting_trace]; rfl, by rw [addSighting_panel]; rfl,
        addSighting_counters g _⟩
  | transfer f =>
    by_cases hm : s.mode = .resync
    · rw [deliver_of_resync hm (by simp [Body.kind]) (by simp [Body.kind]), State.staged, if_pos hm]
      exact ⟨rfl, rfl, rfl, rfl⟩
    · rw [deliver_transfer hm, State.staged, if_neg hm]
      have h := SameReach.takeTransfer (s := hear src s) (u := s) ⟨rfl, rfl, rfl, rfl, rfl, rfl, rfl⟩ src f
      exact ⟨h.agree, h.trace, h.panel, by rw [h.counters]⟩

/-- A frame that leaves a staging active has discarded none. -/
theorem staged_active {s : State} {src : Station} {b : Body} (h : (s.staged src b).agree.staging.active = true) :
    (s.staged src b).counters.transfersDiscarded = s.counters.transfersDiscarded := by
  have hadd : ∀ (f : TransferBody) (u : State), (addToStaging src f u).agree.staging.active = true →
      (addToStaging src f u).counters = u.counters := by
    intro f u hu
    unfold addToStaging at hu ⊢
    split at hu
    · exact absurd hu Bool.false_ne_true
    · rfl
  cases b with
  | mark m => rfl
  | presence p => rfl
  | sighting g => rfl
  | transfer f =>
    unfold State.staged takeTransfer at h ⊢
    dsimp only at h ⊢
    split_ifs at h ⊢
    · rfl
    · rfl
    · rw [hadd f s h]
    · rw [hadd f _ h]

/-! ### A frame with FINAL (O42) -/

/-- A frame with FINAL of the running opportunity ends it once its contents are delivered. -/
theorem takeInCycle_final {s : State} {src : Station} (b : Body) (h : s.line.opp = .number src.val) :
    takeInCycle src true b s = endOpportunity src.val (deliver src b (resyncCycle b s)) := by
  unfold takeInCycle
  rw [alignTo_of_own_opportunity h, frameOver_final (k := src.val) (by rw [deliver_line]; exact h)]

/-- A frame of another opportunity moves the counter first (R107). -/
theorem takeInCycle_final_of_disagree {s : State} {src : Station} (b : Body) (h : s.disagrees src = true) :
    takeInCycle src true b s
      = endOpportunity src.val (deliver src b (resyncCycle b (moveCounter src b.kind s))) := by
  unfold takeInCycle alignTo
  rw [if_pos h, frameOver_final (k := src.val) (by rw [deliver_line]; rfl)]

/-- Before the first opportunity nothing ends (R97, R107). -/
theorem takeInCycle_of_none {s : State} {src : Station} (final : Bool) (b : Body) (h : s.line.opp = .none) :
    takeInCycle src final b s = if final then deliver src b (resyncCycle b s)
      else { deliver src b (resyncCycle b s) with
        line := { (resyncCycle b s).line with silence := false, oppFrames := false } } := by
  have hopp : (resyncCycle b s).line.opp = .none := h
  unfold takeInCycle alignTo
  rw [if_neg (by simp [State.disagrees, h])]
  cases final with
  | true => simp [frameOver, endCurrent, hopp]
  | false => simp [frameOver, hopp, Opp.isNumber]

/-- The end of a staging's opportunity, for the state that the opportunity's end leaves (R144). -/
theorem endOpportunity_settles (k : Nat) (s : State) : (endOpportunity k s).agree = (settleStaging s).agree
    ∧ (endOpportunity k s).table = (settleStaging s).table ∧ (endOpportunity k s).warn = (settleStaging s).warn
    ∧ (endOpportunity k s).counters = (settleStaging s).counters := by
  unfold endOpportunity
  split <;> exact ⟨rfl, rfl, rfl, rfl⟩

/-- What the end of an opportunity does with its staging, by the record and the FUSING label (R144, R145). -/
theorem finish_endOpportunity_staging (k : Nat) (s : State) :
    (s.agree.staging.active = false ∨ s.agree.staging.held = true →
      (finish (endOpportunity k s)).agree.staging = { s.agree.staging with discarded := false }
      ∧ (finish (endOpportunity k s)).table = s.table
      ∧ (finish (endOpportunity k s)).warn.zones = s.warn.zones)
    ∧ (s.agree.staging.active = true → s.agree.staging.held = false →
      ((0 < s.agree.staging.residue ∨ idsClash (s.agree.staging.slots s.profile.zoneCount) = true
          ∨ tableDigest (s.agree.staging.slots s.profile.zoneCount) s.agree.staging.nextId ≠ s.agree.staging.digest) →
        (finish (endOpportunity k s)).agree.staging = Staging.empty
        ∧ (finish (endOpportunity k s)).table = s.table
        ∧ (finish (endOpportunity k s)).warn.zones = s.warn.zones
        ∧ (finish (endOpportunity k s)).counters.transfersDiscarded = satInc s.counters.transfersDiscarded)
      ∧ (s.agree.staging.residue = 0 → idsClash (s.agree.staging.slots s.profile.zoneCount) = false →
        tableDigest (s.agree.staging.slots s.profile.zoneCount) s.agree.staging.nextId = s.agree.staging.digest →
        (s.fusion.fusing.isSome = true →
          (finish (endOpportunity k s)).agree.staging = { s.agree.staging with held := true, discarded := false }
          ∧ (finish (endOpportunity k s)).table = s.table
          ∧ (finish (endOpportunity k s)).warn.zones = s.warn.zones)
        ∧ (s.fusion.fusing = none →
          (finish (endOpportunity k s)).table = s.agree.staging.table s.profile
          ∧ (finish (endOpportunity k s)).agree.installed = true
          ∧ (finish (endOpportunity k s)).agree.staging = Staging.empty
          ∧ historyOf (finish (endOpportunity k s)).agree.history s.agree.staging.label = some s.agree.staging.digest
          ∧ (finish (endOpportunity k s)).warn.zones
            = (evaluate { s with table := s.agree.staging.table s.profile }).warn.zones
          ∧ ((finish (endOpportunity k s)).mode = s.mode → (finish (endOpportunity k s)).warn
            = (evaluate { s with table := s.agree.staging.table s.profile }).warn)
          ∧ (finish (endOpportunity k s)).counters.transfersInstalled = satInc s.counters.transfersInstalled))) := by
  obtain ⟨hagree, htable, hwarn, hcounters⟩ := endOpportunity_settles k s
  have hkeep : (finish (endOpportunity k s)).mode = s.mode
      → (finish (endOpportunity k s)).warn = (endOpportunity k s).warn := fun h =>
    finishAt_warn _ _ (h.trans (endOpportunity_mode k s).symm)
  rw [finish_agree, finish_table, finish_zones, finish_counters, hagree, htable, hcounters]
  simp only [hwarn] at hkeep ⊢
  refine ⟨fun hidle => ?idle, fun ha hh => ⟨fun hfault => ?discards,
    fun h1 h2 h3 => ⟨fun hf => ?holds, fun hf => ?installs⟩⟩⟩
  case idle =>
    rw [settleStaging_of_idle hidle]
    exact ⟨rfl, rfl, rfl⟩
  case discards =>
    rw [settleStaging_discards ha hh (endFault_of_fault hfault)]
    exact ⟨rfl, rfl, rfl, rfl⟩
  case holds =>
    rw [settleStaging_holds ha hh (endFault_of_complete h1 h2 h3) hf]
    exact ⟨rfl, rfl, rfl⟩
  case installs =>
    rw [settleStaging_installs ha hh (endFault_of_complete h1 h2 h3) hf, clearDiscarded_warn] at hkeep
    rw [settleStaging_installs ha hh (endFault_of_complete h1 h2 h3) hf, clearDiscarded_warn, clearDiscarded_table,
      clearDiscarded_counters, install_evaluated, install_table, install_transfersInstalled]
    have hclear : (clearDiscarded (install s)).agree = { s.agree with
        history := storePair s.agree.history s.agree.staging.label s.agree.staging.digest
        installed := true, staging := Staging.empty } :=
      (congrArg (fun a : Agree => { a with staging := { a.staging with discarded := false } }) (install_agree s)).trans rfl
    rw [hclear]
    exact ⟨rfl, rfl, rfl, historyOf_storePair _ _ _, rfl, fun h => (hkeep h).trans (install_evaluated s), rfl⟩

/-- The record that a TRANSFER frame leaves depends on the Agreement Unit and the cycle number alone. -/
theorem takeTransfer_agree_congr {s u : State} (ha : s.agree = u.agree) (hc : s.line.cycle = u.line.cycle)
    (src : Station) (t : TransferBody) : (takeTransfer src t s).agree = (takeTransfer src t u).agree := by
  have hadd : ∀ {v w : State}, v.agree = w.agree → (addToStaging src t v).agree = (addToStaging src t w).agree := by
    intro v w h
    unfold addToStaging
    rw [h]
    split
    · exact congrArg (fun a : Agree => { a with staging := Staging.cleared true }) h
    · rfl
  have hign : s.ignores src t = u.ignores src t := by simp only [State.ignores, ha, hc]
  unfold takeTransfer
  rw [hign, ha]
  split_ifs
  · exact ha
  · exact hadd ha
  · exact hadd rfl

/-- The state that a frame taken in the cycle leaves, before its opportunity ends. -/
def State.delivered (s : State) (src : Station) (b : Body) : State :=
  deliver src b (resyncCycle b (s.frameHeard src b))

/-- The cycle number after a frame taken in the cycle (R111). -/
def State.cycleAfter (s : State) (b : Body) : Word16 :=
  if s.mode = .resync then b.cycleInResync s.line.cycle else s.line.cycle

theorem cycleAfter_eq (s : State) (b : Body) : s.cycleAfter b = match b with
    | .presence p => if s.mode = .resync then p.cycle else s.line.cycle
    | _ => s.line.cycle := by
  cases b <;> simp [State.cycleAfter, Body.cycleInResync]

theorem resyncCycle_line (s : State) (b : Body) :
    (resyncCycle b s).line = { s.line with cycle := s.cycleAfter b } := rfl

theorem delivered_line (s : State) (src : Station) (b : Body) : (s.delivered src b).line = { s.line with
    rx := .idle, plan := none, openTimer := s.timerAfterFrame, cycle := s.cycleAfter b } := by
  rw [State.delivered, deliver_line, resyncCycle_line, frameHeard_line]
  rfl

theorem delivered_agree (s : State) (src : Station) (b : Body) : (s.delivered src b).agree = match b with
    | .transfer f => if s.mode = .resync then s.agree else (takeTransfer src f s).agree
    | _ => s.agree := by
  rw [State.delivered, (deliver_staged _ _ _).1]
  cases b with
  | mark m => rfl
  | presence p => rfl
  | sighting g => rfl
  | transfer f =>
    rw [resyncCycle_of_other (by simp [Body.kind])]
    have hstaged : (s.frameHeard src (.transfer f)).staged src (.transfer f)
        = if s.mode = .resync then s.frameHeard src (.transfer f)
          else takeTransfer src f (s.frameHeard src (.transfer f)) := rfl
    have hcongr := takeTransfer_agree_congr (s := s.frameHeard src (.transfer f)) (u := s) rfl rfl src f
    rw [hstaged, apply_ite State.agree, hcongr]
    rfl

end Sys2Proof.Machine
end

section
/-! PROOFS. A taken frame with FINAL ends its opportunity (O42). -/

namespace Sys2Proof.Machine

theorem delivered_mode (s : State) (src : Station) (b : Body) : (s.delivered src b).mode = s.mode := by
  rw [State.delivered, deliver_mode]
  rfl

theorem delivered_place (s : State) (src : Station) (b : Body) :
    (s.delivered src b).profile = s.profile ∧ (s.delivered src b).own = s.own := by
  simp [State.delivered, State.profile, State.own, State.frameHeard]

/-- A frame taken in the cycle leaves the table, the clock and the zones alone, and the sightings but those of the OPEN
label. -/
theorem delivered_rest (s : State) (src : Station) (b : Body) : (s.delivered src b).loader = s.loader
    ∧ (s.delivered src b).table = s.table ∧ (s.delivered src b).detector = s.detector
    ∧ (s.delivered src b).time = s.time ∧ (s.delivered src b).warn = s.warn
    ∧ (s.delivered src b).fusion.fusing = s.fusion.fusing := by
  have hf := (deliver_counters src b (resyncCycle b (s.frameHeard src b))).2.1
  refine ⟨by simp [State.delivered, State.frameHeard], by simp [State.delivered, State.frameHeard],
    by simp [State.delivered, State.frameHeard], by simp [State.delivered, State.frameHeard],
    by simp [State.delivered, State.frameHeard], ?_⟩
  rw [State.delivered, hf]
  simp [State.frameHeard]

/-- What a frame taken in the cycle counts (R90). -/
theorem delivered_counters (s : State) (src : Station) (b : Body) : (s.delivered src b).counters = { s.counters with
    framesTaken := satInc s.counters.framesTaken
    sightingsRefused := (s.delivered src b).counters.sightingsRefused
    transfersIgnored := (s.delivered src b).counters.transfersIgnored
    transfersDiscarded := (s.delivered src b).counters.transfersDiscarded } :=
  (deliver_counters src b (resyncCycle b (s.frameHeard src b))).1

/-- A frame with FINAL of the running opportunity ends it. -/
theorem takeFrame_final {s : State} {src : Station} (b : Body) (hcycle : s.InCycle) (h : s.line.opp = .number src.val) :
    takeFrame src true b s = endOpportunity src.val (s.delivered src b) := by
  rw [takeFrame_of_cycle hcycle, takeInCycle_final b (by rw [frameHeard_line]; exact h)]
  rfl

/-- Before the first opportunity a frame is only delivered. -/
theorem takeFrame_of_none {s : State} {src : Station} (final : Bool) (b : Body) (hcycle : s.InCycle)
    (h : s.line.opp = .none) : takeFrame src final b s = if final then s.delivered src b
      else { s.delivered src b with line := { (s.delivered src b).line with silence := false, oppFrames := false } } := by
  rw [takeFrame_of_cycle hcycle, takeInCycle_of_none final b (by rw [frameHeard_line]; exact h)]
  have hline : (s.delivered src b).line = (resyncCycle b (s.frameHeard src b)).line := by
    rw [State.delivered, deliver_line]
  rw [hline]
  rfl

/-- A frame that leaves a staging active has discarded none. -/
theorem delivered_active {s : State} {src : Station} {b : Body} (h : (s.delivered src b).agree.staging.active = true) :
    (s.delivered src b).counters.transfersDiscarded = s.counters.transfersDiscarded := by
  obtain ⟨hagree, -, -, hcounters⟩ := deliver_staged src b (resyncCycle b (s.frameHeard src b))
  rw [State.delivered] at h ⊢
  rw [hcounters]
  rw [hagree] at h
  exact staged_active h

/-- The state that a frame of another opportunity leaves, before the opportunity that it moved to ends (R107). -/
def State.movedTo (s : State) (src : Station) (b : Body) : State :=
  deliver src b (resyncCycle b (moveCounter src b.kind (s.frameHeard src b)))

/-- A frame with FINAL of another opportunity moves the counter to it and ends it. -/
theorem takeFrame_final_moved {s : State} {src : Station} (b : Body) (hcycle : s.InCycle) (h : s.disagrees src = true) :
    takeFrame src true b s = endOpportunity src.val (s.movedTo src b) := by
  have hdis : (s.frameHeard src b).disagrees src = true := by
    rw [State.disagrees, frameHeard_line]
    exact h
  rw [takeFrame_of_cycle hcycle, takeInCycle_final_of_disagree b hdis]
  rfl

theorem movedTo_facts (s : State) (src : Station) (b : Body) : (s.movedTo src b).mode = s.mode
    ∧ (s.movedTo src b).profile = s.profile ∧ (s.movedTo src b).own = s.own
    ∧ (s.movedTo src b).line.openTimer = .stopped
    ∧ (s.movedTo src b).counters.burstCuts = s.counters.burstCuts
    ∧ (s.movedTo src b).counters.slotDisagreements = satInc s.counters.slotDisagreements := by
  have hdeliver := (deliver_counters src b (resyncCycle b (moveCounter src b.kind (s.frameHeard src b)))).1
  have hsettle := (Settled.settleStaging (s.frameHeard src b)).counters
  refine ⟨by simp [State.movedTo, State.frameHeard], by simp [State.movedTo, State.profile, State.frameHeard],
    by simp [State.movedTo, State.own, State.frameHeard], ?_, ?_, ?_⟩
  · rw [State.movedTo, deliver_line]
    rfl
  · rw [State.movedTo, hdeliver]
    show (settleStaging (s.frameHeard src b)).counters.burstCuts = _
    rw [hsettle]
    rfl
  · rw [State.movedTo, hdeliver]
    show satInc (settleStaging (s.frameHeard src b)).counters.slotDisagreements = _
    rw [hsettle]
    rfl

/-- Settles O42. -/
theorem takenFinalEndsItsOpportunity : Obligations.TakenFinalEndsItsOpportunity := by
  intro s c frame src b h0 htx hrx hj hc
  have hcmd : FrameCommand c frame b := hc
  refine ⟨fun hcycle hopp => ?own, fun hcycle hopp => ?moved, fun hcycle hopp => ?none, fun hm hw => ?woken⟩
  case own =>
    have hcycle : s.InCycle := hcycle
    refine ⟨_, (s.delivered src b).agree.staging, exec_of_frameCommand (receives_of h0 hcycle.awake htx hrx) hj hcmd, ?_⟩
    rw [takeFrame_final b hcycle hopp]
    obtain ⟨hprofile, hown⟩ := delivered_place s src b
    have hmode := delivered_mode s src b
    have hline := delivered_line s src b
    obtain ⟨hloader, htable, hdetector, htime, hwarn, hfusing⟩ := delivered_rest s src b
    have hset := Settled.endOpportunity src.val (s.delivered src b)
    have hcycleNow : (finish (endOpportunity src.val (s.delivered src b))).line.cycle = s.cycleAfter b := by
      have h := congrArg Prod.fst (endOpportunity_counter src.val (s.delivered src b))
      rw [finish_line]
      exact h.trans (by rw [hline])
    obtain ⟨hpresence, hother⟩ := deliver_rosters src hcmd.not_mark (resyncCycle b (s.frameHeard src b))
    obtain ⟨hclosed, hopen⟩ := deliver_sightings src b (resyncCycle b (s.frameHeard src b))
    obtain ⟨hidle, hactive⟩ := finish_endOpportunity_staging src.val (s.delivered src b)
    have hroster : (finish (endOpportunity src.val (s.delivered src b))).roster = (s.delivered src b).roster := by simp
    have hlabel : (finish (endOpportunity src.val (s.delivered src b))).fusion.openLabel
        = (s.delivered src b).fusion.openLabel := by rw [finish_fusion, hset.openLabel]
    have hrefused : (finish (endOpportunity src.val (s.delivered src b))).counters.sightingsRefused
        = (s.delivered src b).counters.sightingsRefused := by rw [finish_counters, hset.counters]; rfl
    refine ⟨?staging, ?cycle, fun p hp => ?presence, fun hp => ?heard, fun h => ?closed, fun x o hx hm ho => ?label,
      fun hm => ?ignored, fun hk => ?next, fun hk => ?last, ?framesTaken, ?burstCuts, fun h => ?idle, fun ha hh => ?active⟩
    case staging =>
      rw [delivered_agree]
      cases b with
      | transfer f => exact apply_ite Agree.staging _ _ _
      | mark m => rfl
      | presence p => rfl
      | sighting g => rfl
    case cycle => exact hcycleNow.trans (cycleAfter_eq s b)
    case presence =>
      rw [hroster, hcycleNow, State.delivered, hpresence p hp]
      rfl
    case heard =>
      rw [hroster, State.delivered, hother hp]
      rfl
    case closed =>
      rw [hlabel, hrefused]
      exact hclosed h
    case label =>
      rw [hlabel, hrefused]
      exact hopen x o hx hm ho
    case ignored =>
      rw [finish_counters, hset.counters, State.delivered, deliver_resync_frame (by exact hm) hcmd.not_mark]
      rfl
    case next =>
      obtain ⟨hm, hl⟩ := finish_endOpportunity_next (k := src.val) (s := s.delivered src b) (hprofile.symm ▸ hk)
      refine ⟨hm.trans hmode, ?_⟩
      rw [hcycleNow, ← timerAfterFrame_of_cycle hcycle.not_listening, hl, hline]
    case last =>
      obtain ⟨hopp', hsilence, hframes, hplan, hm, htimer⟩ :=
        finish_endOpportunity_last (k := src.val) (s := s.delivered src b) (hprofile.symm ▸ hk)
      rw [hmode] at hm
      refine ⟨hopp', hsilence, hframes, hplan, hm, fun hlull => (htimer hlull).trans ?_⟩
      rw [hmode, hcycle.opens, hprofile, hown]
    case framesTaken =>
      rw [finish_counters, hset.counters, delivered_counters]
      rfl
    case burstCuts =>
      rw [finish_counters, hset.counters, delivered_counters]
      rfl
    case idle =>
      rw [htable, hwarn] at hidle
      exact hidle h
    case active =>
      rw [hprofile, htable, hwarn, hfusing] at hactive
      obtain ⟨hdiscards, hcomplete⟩ := hactive ha hh
      have hcounted : (s.delivered src b).counters.transfersDiscarded = s.counters.transfersDiscarded :=
        delivered_active ha
      have hinstalled : (s.delivered src b).counters.transfersInstalled = s.counters.transfersInstalled := by
        rw [delivered_counters]
      rw [hcounted] at hdiscards
      refine ⟨hdiscards, fun h1 h2 h3 => ?_⟩
      obtain ⟨hholds, hinstalls⟩ := hcomplete h1 h2 h3
      refine ⟨hholds, fun hf => ?_⟩
      obtain ⟨htab, hinst, hempty, hhist, hzones, hkeep, hcount⟩ := hinstalls hf
      rw [hinstalled] at hcount
      rw [hmode] at hkeep
      rw [htab]
      refine ⟨rfl, hinst, hempty, hhist, ?_, fun h => ?_, hcount⟩
      · exact hzones.trans (evaluate_zones_congr hloader rfl (by rw [hdetector]) (by rw [htime]) rfl)
      · exact (hkeep h).trans (evaluate_warn_congr hloader rfl (by rw [hdetector]) (by rw [htime]) rfl rfl)
  case moved =>
    have hcycle : s.InCycle := hcycle
    have hdis : s.disagrees src = true := by
      rcases hopp with h | ⟨k, h, hk⟩
      · simp [State.disagrees, h]
      · simp [State.disagrees, h, hk]
    refine ⟨_, exec_of_frameCommand (receives_of h0 hcycle.awake htx hrx) hj hcmd, ?_⟩
    rw [takeFrame_final_moved b hcycle hdis]
    obtain ⟨hmode, hprofile, hown, htimer, hcuts, hcount⟩ := movedTo_facts s src b
    have hset := Settled.endOpportunity src.val (s.movedTo src b)
    refine ⟨?slots, ?cuts, ?plan, fun hk => ?next, fun hk => ?last⟩
    case slots =>
      rw [finish_counters, hset.counters]
      exact hcount
    case cuts =>
      rw [finish_counters, hset.counters]
      exact hcuts
    case plan =>
      rcases Nat.lt_or_ge (src.val + 1) (s.movedTo src b).profile.stations with hk | hk
      · rw [(finish_endOpportunity_next hk).2]
      · obtain ⟨-, -, -, hplan, -⟩ := finish_endOpportunity_last hk
        exact hplan
    case next =>
      obtain ⟨hm, hl⟩ := finish_endOpportunity_next (k := src.val) (s := s.movedTo src b) (hprofile.symm ▸ hk)
      exact ⟨hm.trans hmode, by rw [hl], by rw [hl], by rw [hl]; exact htimer⟩
    case last =>
      obtain ⟨hopp', hsilence, -, -, hm, htimer'⟩ :=
        finish_endOpportunity_last (k := src.val) (s := s.movedTo src b) (hprofile.symm ▸ hk)
      rw [hmode] at hm
      refine ⟨hopp', hsilence, hm, fun hlull => (htimer' hlull).trans ?_⟩
      rw [hmode, hcycle.opens, hprofile, hown]
  case none =>
    have hcycle : s.InCycle := hcycle
    refine ⟨_, exec_of_frameCommand (receives_of h0 hcycle.awake htx hrx) hj hcmd, ?_⟩
    have hline := delivered_line s src b
    rw [takeFrame_of_none true b hcycle hopp, if_pos rfl,
      finish_of_not_ready (lullReady_of_opp (by rw [hline]; simp [hopp]))]
    refine ⟨delivered_mode s src b, ?_, ?_, ?_⟩
    · exact (congrArg Line.opp hline).trans hopp
    · exact (congrArg Line.plan hline :)
    · exact (congrArg Counters.framesTaken (delivered_counters s src b) :)
  case woken =>
    have hd : deliver src b (s.wakeEnded src b)
        = { s.wakeEnded src b with roster := (deliver src b (s.wakeEnded src b)).roster } :=
      deliver_resync_frame rfl hcmd.not_mark src
    obtain ⟨r, hr⟩ : ∃ r, r = (deliver src b (s.wakeEnded src b)).roster := ⟨_, rfl⟩
    rw [← hr] at hd
    refine ⟨_, exec_of_frameCommand (receives_of h0 (by rw [hm]; rfl) htx hrx) hj hcmd, ?_⟩
    rw [takeFrame_of_wake_eq hm hw, frameOver_final (k := src.val) (by rw [deliver_line]; rfl), hd]
    obtain ⟨-, -, hfusion, hcounters, hagree⟩ :=
      endOpportunity_idle (s := { s.wakeEnded src b with roster := r }) src.val (.inl rfl)
    have hresync : (finish (endOpportunity src.val { s.wakeEnded src b with roster := r })).mode = .resync := by
      rw [finish_of_not_ready (lullReady_of_mode (by rw [endOpportunity_mode]; exact Mode.noConfusion))]
      exact endOpportunity_mode _ _
    rw [finish_fusion, finish_agree, finish_counters, hfusion, hagree, hcounters]
    refine ⟨hresync, ?wake, rfl, rfl, rfl, rfl, fun hk => ?next, fun hk => ?last⟩
    case wake =>
      rw [finish_line]
      rcases Nat.lt_or_ge (src.val + 1) s.profile.stations with hk | hk
      · rw [endOpportunity_of_next (s := { s.wakeEnded src b with roster := r }) hk]
        simp [beginOpportunity, wakeEnded_line]
      · rw [endOpportunity_of_last (s := { s.wakeEnded src b with roster := r }) hk]
        simp [endCycle, wakeEnded_line]
    case next =>
      rw [(finish_endOpportunity_next (s := { s.wakeEnded src b with roster := r }) hk).2]
      exact ⟨rfl, rfl, rfl⟩
    case last =>
      obtain ⟨hopp', hsilence, -, -, -, htimer⟩ :=
        finish_endOpportunity_last (k := src.val) (s := { s.wakeEnded src b with roster := r }) hk
      exact ⟨hopp', hsilence, (htimer (by rw [hresync]; exact Mode.noConfusion)).trans (if_pos (.inr rfl))⟩

end Sys2Proof.Machine
end

section
/-! PROOFS. The close of a cycle in the Roster (O44). -/

namespace Sys2Proof.Machine

/-! ### One entry at a close (R119 to R122) -/

/-- An entry of station `i` after a close on station `own`. -/
def RosterEntry.closed (own : Station) (counting : Bool) (i : Nat) (e : RosterEntry) : RosterEntry :=
  if i = own.val then e.closedOwn else if counting then e.closedCounting else e.closedOpening

theorem close_entry {own : Station} {r : Roster} {i : Nat} {e : RosterEntry} (h : r.entries[i]? = some e) :
    (r.close own).entries[i]? = some (e.closed own r.cycleOpen i) := by
  simp only [Roster.close, closeEntries, List.getElem?_mapIdx, h]
  rfl

theorem closed_own {own : Station} {i : Nat} (h : i = own.val) (counting : Bool) (e : RosterEntry) :
    e.closed own counting i = e.closedOwn := if_pos h

theorem closed_counting {own : Station} {i : Nat} (h : i ≠ own.val) (e : RosterEntry) :
    e.closed own true i = e.closedCounting := if_neg h

theorem closed_opening {own : Station} {i : Nat} (h : i ≠ own.val) (e : RosterEntry) :
    e.closed own false i = e.closedOpening := if_neg h

/-- A close keeps what PRESENCE frames have recorded and clears the heard flag. -/
theorem closed_keeps (own : Station) (counting : Bool) (i : Nat) (e : RosterEntry) :
    (e.closed own counting i).heard = false
      ∧ ((e.closed own counting i).last, (e.closed own counting i).takenIn, (e.closed own counting i).profile)
        = (e.last, e.takenIn, e.profile) := by
  unfold RosterEntry.closed RosterEntry.closedCounting RosterEntry.closedOpening
  split_ifs <;> exact ⟨rfl, rfl⟩

theorem closed_heard {own : Station} {i : Nat} {e : RosterEntry} (h : i = own.val ∨ e.heard = true) (counting : Bool) :
    (e.closed own counting i).state = .present ∧ (e.closed own counting i).unheard = 0 := by
  by_cases hi : i = own.val
  · rw [closed_own hi]
    exact ⟨rfl, rfl⟩
  · have hh := h.resolve_left hi
    cases counting with
    | true => rw [closed_counting hi, RosterEntry.closedCounting, if_pos hh]; exact ⟨rfl, rfl⟩
    | false => rw [closed_opening hi, RosterEntry.closedOpening, if_pos hh]; exact ⟨rfl, rfl⟩

/-! ### LINE LOST (R125) -/

theorem othersHeard_iff (own : Station) (entries : List RosterEntry) : othersHeard own entries = true
    ↔ ∃ i e, entries[i]? = some e ∧ i ≠ own.val ∧ e.heard = true := by
  simp only [othersHeard, List.any_eq_true, Prod.exists, List.mem_zipIdx_iff_getElem?]
  constructor
  · rintro ⟨e, i, he, h⟩
    exact ⟨i, e, he, by simpa using h⟩
  · rintro ⟨i, e, he, h⟩
    exact ⟨e, i, he, by simpa using h⟩

theorem close_run {own : Station} {r : Roster} (h : r.cycleOpen = true) :
    (r.close own).quietRun = quietRunAfter own r ∧ (r.close own).lineLost = lineLostAfter own r := by
  simp [Roster.close, h]

/-- Settles O44. -/
theorem cycleCloseJudgesEveryEntry : Obligations.CycleCloseJudgesEveryEntry := by
  intro own r hrun
  refine ⟨Roster.close_length own r, rfl, fun i e he => ?entry, fun ho => ?opening,
    fun ho => ⟨fun hheard => ?heard, fun hquiet => ?quiet⟩⟩
  case entry =>
    refine ⟨_, close_entry he, (closed_keeps own _ i e).1, (closed_keeps own _ i e).2, fun h => closed_heard h _,
      fun hi hh hopen => ?_, fun hi hh hopen => ?_⟩
    · rw [hopen, closed_opening hi, RosterEntry.closedOpening, if_neg (by simp [hh])]
      exact ⟨rfl, rfl⟩
    · rw [hopen, closed_counting hi, RosterEntry.closedCounting, if_neg (by simp [hh])]
      exact ⟨satIncByte_eq _, fun h => if_pos h, fun h => if_neg h⟩
  case opening => simp [Roster.close, ho]
  case heard =>
    obtain ⟨hq, hl⟩ := close_run (own := own) ho
    have hany := (othersHeard_iff own r.entries).2 hheard
    rw [hq, hl]
    simp [quietRunAfter, lineLostAfter, hany]
  case quiet =>
    obtain ⟨hq, hl⟩ := close_run (own := own) ho
    have hnone : othersHeard own r.entries = false := by
      rw [Bool.eq_false_iff, ne_eq, othersHeard_iff]
      rintro ⟨i, e, he, hi, hh⟩
      simp [hquiet i e he hi] at hh
    rw [hq, hl]
    simp [quietRunAfter, lineLostAfter, hnone]

end Sys2Proof.Machine
end

section
/-! PROOFS. The plurality digest (the first part of O45). -/

namespace Sys2Proof.Machine

theorem mem_groupOf {q : List (Station × Word16)} {d : Word16} {a : Station} : a ∈ groupOf q d ↔ (a, d) ∈ q := by
  simp [groupOf]

theorem largerGroup_some (q : List (Station × Word16)) (b d : Word16) : largerGroup q (some b) d
    = if (groupOf q b).length < (groupOf q d).length then some d else some b := rfl

/-- The group of `d` wins against that of `d'` (R132). -/
def Leads (q : List (Station × Word16)) (d d' : Word16) : Prop :=
  (groupOf q d').length < (groupOf q d).length
    ∨ (groupOf q d').length = (groupOf q d).length ∧ ∃ a ∈ groupOf q d, ∀ b ∈ groupOf q d', a.val < b.val

theorem Leads.length_le {q : List (Station × Word16)} {d d' : Word16} (h : Leads q d d') :
    (groupOf q d').length ≤ (groupOf q d).length := by
  rcases h with h | ⟨h, -⟩ <;> omega

/-- The best digest among those that the frames `p` report. -/
def BestOf (q p : List (Station × Word16)) : Option Word16 → Prop
  | none => p = []
  | some d => (∃ x ∈ p, x.2 = d) ∧ ∀ x ∈ p, x.2 ≠ d → Leads q d x.2

/-- Of two frames of a sorted check the earlier has the lower station number. -/
theorem station_lt_of_append {q p rest : List (Station × Word16)} (hq : (q.map (fun x => x.1.val)).Pairwise (· < ·))
    (h : q = p ++ rest) {x y : Station × Word16} (hx : x ∈ p) (hy : y ∈ rest) : x.1.val < y.1.val := by
  subst h
  rw [List.map_append, List.pairwise_append] at hq
  exact hq.2.2 _ (List.mem_map_of_mem hx) _ (List.mem_map_of_mem hy)

/-- A digest that no earlier frame reports loses a tie against the best so far. -/
theorem leads_of_new {q p rest : List (Station × Word16)} {d e : Word16}
    (hq : (q.map (fun x => x.1.val)).Pairwise (· < ·)) (h : q = p ++ rest) (hd : ∃ x ∈ p, x.2 = d)
    (he : ∀ x ∈ p, x.2 ≠ e) (hle : (groupOf q e).length ≤ (groupOf q d).length) : Leads q d e := by
  rcases Nat.lt_or_eq_of_le hle with hlt | heq
  · exact .inl hlt
  · obtain ⟨x, hx, rfl⟩ := hd
    have hxq : x ∈ q := h ▸ List.mem_append_left _ hx
    refine .inr ⟨heq, x.1, mem_groupOf.2 hxq, fun b hb => ?_⟩
    have hbq : (b, e) ∈ p ++ rest := h ▸ mem_groupOf.1 hb
    have hrest := (List.mem_append.1 hbq).resolve_left (fun hp => he _ hp rfl)
    exact station_lt_of_append hq h hx hrest

theorem BestOf.step {q p rest : List (Station × Word16)} {best : Option Word16} {x : Station × Word16}
    (hq : (q.map (fun x => x.1.val)).Pairwise (· < ·)) (h : q = p ++ x :: rest) (hb : BestOf q p best) :
    BestOf q (p ++ [x]) (largerGroup q best x.2) := by
  cases best with
  | none =>
    obtain rfl : p = [] := hb
    exact ⟨⟨x, by simp, rfl⟩, fun y hy hne => absurd (congrArg Prod.snd (List.mem_singleton.1 hy)) hne⟩
  | some d =>
    obtain ⟨⟨w, hw, hwd⟩, hlead⟩ := hb
    rw [largerGroup_some]
    by_cases hlt : (groupOf q d).length < (groupOf q x.2).length
    · rw [if_pos hlt]
      refine ⟨⟨x, by simp, rfl⟩, fun y hy hne => .inl ?_⟩
      have hyp : y ∈ p := (List.mem_append.1 hy).resolve_right (fun h => hne (congrArg Prod.snd (List.mem_singleton.1 h)))
      by_cases hyd : y.2 = d
      · rw [hyd]
        exact hlt
      · exact Nat.lt_of_le_of_lt (hlead y hyp hyd).length_le hlt
    · rw [if_neg hlt]
      refine ⟨⟨w, List.mem_append_left _ hw, hwd⟩, fun y hy hne => ?_⟩
      rcases List.mem_append.1 hy with hyp | hyx
      · exact hlead y hyp hne
      · obtain rfl := List.mem_singleton.1 hyx
        by_cases hold : ∃ z ∈ p, z.2 = y.2
        · obtain ⟨z, hz, hzy⟩ := hold
          rw [← hzy]
          exact hlead z hz (by rw [hzy]; exact hne)
        · exact leads_of_new hq h ⟨w, hw, hwd⟩ (fun z hz hzy => hold ⟨z, hz, hzy⟩) (Nat.not_lt.1 hlt)

theorem BestOf.foldl {q : List (Station × Word16)} (hq : (q.map (fun x => x.1.val)).Pairwise (· < ·))
    (rest p : List (Station × Word16)) (best : Option Word16) (h : q = p ++ rest) (hb : BestOf q p best) :
    BestOf q q (rest.foldl (fun b x => largerGroup q b x.2) best) := by
  induction rest generalizing p best with
  | nil =>
    obtain rfl : q = p := by simpa using h
    exact hb
  | cons x rest ih => exact ih (p ++ [x]) _ (by simpa using h) (hb.step hq h)

/-- The plurality digest leads every other one (R132). -/
theorem plurality_leads {q : List (Station × Word16)} (hq : (q.map (fun x => x.1.val)).Pairwise (· < ·)) (hne : q ≠ []) :
    ∃ d, plurality q = some d ∧ groupOf q d ≠ [] ∧ ∀ d', d' ≠ d → Leads q d d' := by
  have hbest : BestOf q q (plurality q) := BestOf.foldl hq q [] none rfl rfl
  cases hp : plurality q with
  | none => exact absurd (hp ▸ hbest : BestOf q q none) hne
  | some d =>
    rw [hp] at hbest
    obtain ⟨⟨x, hx, rfl⟩, hlead⟩ := hbest
    have hmem : x.1 ∈ groupOf q x.2 := mem_groupOf.2 hx
    refine ⟨x.2, rfl, List.ne_nil_of_mem hmem, fun d' hd' => ?_⟩
    cases hg : groupOf q d' with
    | nil => exact .inl (by rw [hg]; exact List.length_pos_of_mem hmem)
    | cons b bs =>
      have hb : (b, d') ∈ q := mem_groupOf.1 (by rw [hg]; exact List.mem_cons_self)
      exact hlead _ hb hd'

/-- A check has a plurality digest exactly when a PRESENCE qualifies (R132). -/
theorem plurality_eq_none_iff (q : List (Station × Word16)) : plurality q = none ↔ q = [] := by
  have hsome : ∀ (rest : List (Station × Word16)) (d : Word16),
      rest.foldl (fun b x => largerGroup q b x.2) (some d) ≠ none := by
    intro rest
    induction rest with
    | nil => exact fun d => Option.some_ne_none d
    | cons x rest ih =>
      intro d
      rw [List.foldl_cons, largerGroup_some]
      split
      · exact ih x.2
      · exact ih d
  cases q with
  | nil => exact ⟨fun _ => rfl, fun _ => rfl⟩
  | cons x rest => exact ⟨fun h => absurd h (hsome rest x.2), fun h => absurd h (List.cons_ne_nil _ _)⟩

end Sys2Proof.Machine
end

section
/-! PROOFS. The check follows the plurality digest (O45). -/

namespace Sys2Proof.Machine

/-! ### What the check reads (R131) -/

/-- What the check reads of an entry: the last PRESENCE and the cycle it was taken in. -/
def RosterEntry.taken (e : RosterEntry) : Option Presence × Option Word16 := (e.last, e.takenIn)

/-- The pair of a qualifying entry (R131). -/
def qualifyingPair (c : Word16) (x : (Option Presence × Option Word16) × Nat) : Option (Station × Word16) :=
  match x.1.1 with
  | some p =>
    if x.1.2 = some c ∧ p.fused = some (c - 1) then some (Fin.ofNat 32 x.2, p.digest.getD 0) else none
  | none => none

/-- The qualifying frames depend on what PRESENCE frames have recorded alone. -/
theorem qualifying_congr (c : Word16) {xs ys : List RosterEntry}
    (h : xs.map RosterEntry.taken = ys.map RosterEntry.taken) : qualifying c xs = qualifying c ys := by
  have hview : ∀ zs : List RosterEntry,
      qualifying c zs = ((zs.map RosterEntry.taken).zipIdx).filterMap (qualifyingPair c) := by
    intro zs
    rw [List.zipIdx_map, List.filterMap_map]
    rfl
  rw [hview, hview, h]

theorem close_taken (own : Station) (r : Roster) :
    (r.close own).entries.map RosterEntry.taken = r.entries.map RosterEntry.taken := by
  refine List.ext_getElem? fun i => ?_
  cases he : r.entries[i]? with
  | none => simp [he, Roster.close, closeEntries]
  | some e =>
    rw [List.getElem?_map, List.getElem?_map, close_entry he, he]
    have h := (closed_keeps own r.cycleOpen i e).2
    simp only [Prod.mk.injEq] at h
    obtain ⟨hlast, htaken, -⟩ := h
    simp [RosterEntry.taken, hlast, htaken]

theorem hear_taken (i : Station) (r : Roster) :
    (r.hear i).entries.map RosterEntry.taken = r.entries.map RosterEntry.taken := by
  refine List.ext_getElem? fun k => ?_
  simp only [Roster.hear, List.getElem?_map, List.getElem?_modify]
  cases r.entries[k]? with
  | none => rfl
  | some e => 
    by_cases h : i.val = k <;> simp [h, RosterEntry.taken]

/-! ### The Agreement Unit after a check (R131 to R134) -/

/-- The Agreement Unit after a check of the qualifying frames `q` (R132 to R134). -/
def Agree.checked (a : Agree) (c : Word16) (overrun : Bool) (q : List (Station × Word16)) : Agree :=
  match plurality q with
  | none => a
  | some d => { a with
      state := judgedState overrun (historyOf a.history (c - 1)) d a.state
      group := groupOf q d
      runCount := runAfter (judgedState overrun (historyOf a.history (c - 1)) d a.state) a.runCount
      installed := false }

theorem checked_of_none {a : Agree} {q : List (Station × Word16)} (h : q = []) (c : Word16) (overrun : Bool) :
    a.checked c overrun q = a := by rw [Agree.checked, (plurality_eq_none_iff q).2 h]

theorem checked_of_some {a : Agree} {q : List (Station × Word16)} {d : Word16} (h : plurality q = some d) (c : Word16)
    (overrun : Bool) : a.checked c overrun q = { a with
      state := judgedState overrun (historyOf a.history (c - 1)) d a.state
      group := groupOf q d
      runCount := runAfter (judgedState overrun (historyOf a.history (c - 1)) d a.state) a.runCount
      installed := false } := by rw [Agree.checked, h]

theorem applyJudgement_agree (group : List Station) (st : AgreeState) (s : State) : (applyJudgement group st s).agree
    = { s.agree with state := st, group := group, runCount := runAfter st s.agree.runCount, installed := false } := by
  unfold applyJudgement becomeState
  split
  next h =>
    subst h
    simp only [becomeDiverged_agree]
  next => rfl

theorem runCheck_agree (c : Word16) (overrun after : Bool) (s : State) :
    (runCheck c overrun after s).agree = s.agree.checked c overrun (qualifying c s.roster.entries) := by
  unfold runCheck
  split
  next h => rw [Agree.checked, h]
  next d h => 
    rw [checked_of_some h]
    exact applyJudgement_agree _ _ s

/-- Close and check judge the same frames, in either order. -/
theorem closeAndCheck_agree (c : Word16) (overrun : Bool) (s : State) :
    (closeAndCheck c overrun s).agree = s.agree.checked c overrun (qualifying c s.roster.entries) := by
  unfold closeAndCheck
  split
  · rw [runCheck_agree, closeCycle_agree, closeCycle_roster, qualifying_congr c (close_taken _ _)]
  · rw [closeCycle_agree, runCheck_agree]

theorem markJudged_of_cycle {before : Mode} (h : before = .active ∨ before = .mute) (own : Bool) (c : Word16)
    (overrun : Bool) (s : State) : markJudged before own c overrun s = closeAndCheck c overrun s := by
  rcases h with rfl | rfl <;> rfl

theorem markTaken_roster (s : State) (own : Bool) (src : Station) (m : MarkBody) :
    (s.markTaken own src m).roster = s.roster.hear src := by cases own <;> simp [State.markTaken]

theorem handleMark_agree {s : State} (h : s.mode = .active ∨ s.mode = .mute) (own : Bool) (src : Station) (m : MarkBody) :
    (handleMark own src m s).agree = (markLabels m.cycle m.time (s.markTaken own src m)).agree.checked s.line.cycle
      s.fusion.overruns (qualifying s.line.cycle s.roster.entries) := by
  rw [handleMark_eq, markJudged_of_cycle h, closeAndCheck_agree, markLabels_roster, markTaken_roster,
    qualifying_congr _ (hear_taken _ _)]

/-- The Agreement Unit as a MARK checks it: an overrun has made the station DIVERGED (R40). -/
theorem markLabels_agree (s : State) (own : Bool) (src : Station) (m : MarkBody) :
    (markLabels m.cycle m.time (s.markTaken own src m)).agree = { (s.markTaken own src m).agree with
      state := if s.fusion.overruns then .diverged else s.agree.state
      installed := if s.fusion.overruns then (s.agree.installed && s.agree.state == .diverged) else s.agree.installed } := by
  have hf : (s.markTaken own src m).fusion.overruns = s.fusion.overruns := by rw [markTaken_fusion]
  cases ho : s.fusion.overruns with
  | false =>
    rw [markLabels_of_no_overrun (hf.trans ho), markTaken_agree]
    rfl
  | true =>
    rw [markLabels_of_overrun (hf.trans ho), becomeDiverged_agree]
    simp only [markTaken_agree]
    cases s.agree.state <;> simp

/-! ### The event of entering DIVERGED (R129) -/

/-- A step keeps a raised DIVERGED event and raises it as the state is entered. -/
structure DivergedEvent (s t : State) : Prop where
  keeps : s.panel.events.getLsbD 3 = true → t.panel.events.getLsbD 3 = true
  raises : t.agree.state = .diverged → s.agree.state ≠ .diverged → t.panel.events.getLsbD 3 = true

theorem DivergedEvent.trans {s u t : State} (h1 : DivergedEvent s u) (h2 : DivergedEvent u t) : DivergedEvent s t := by
  refine ⟨fun h => h2.keeps (h1.keeps h), fun ht hs => ?_⟩
  by_cases hu : u.agree.state = .diverged
  · exact h2.keeps (h1.raises hu hs)
  · exact h2.raises ht hu

theorem DivergedEvent.of_same {s t : State} (ha : t.agree.state = s.agree.state)
    (he : t.panel.events.getLsbD 3 = s.panel.events.getLsbD 3) : DivergedEvent s t :=
  ⟨fun h => he.trans h, fun ht hs => absurd (ha.symm.trans ht) hs⟩

theorem DivergedEvent.becomeDiverged (s : State) : DivergedEvent s (becomeDiverged s) := by
  by_cases h : s.agree.state = .diverged
  · rw [show Machine.becomeDiverged s = s from if_pos h]
    exact .of_same rfl rfl
  · exact ⟨fun _ => becomeDiverged_event s h, fun _ _ => becomeDiverged_event s h⟩

theorem DivergedEvent.runCheck (c : Word16) (overrun after : Bool) (s : State) :
    DivergedEvent s (runCheck c overrun after s) := by
  have hstate : ∀ st : AgreeState, DivergedEvent s (becomeState st s) := by
    intro st
    unfold becomeState
    split
    next => exact .becomeDiverged s
    next h => exact ⟨id, fun ht => absurd ht h⟩
  unfold Machine.runCheck
  split
  · exact .of_same rfl rfl
  · exact ⟨(hstate _).keeps, (hstate _).raises⟩

theorem DivergedEvent.closeCycle (s : State) : DivergedEvent s (closeCycle s) := by
  refine .of_same rfl ?_
  show (withEvent _ .lineLost s.panel.events).getLsbD 3 = _
  rw [withEvent_getLsbD]
  simp [StatusEvent.bit]

theorem DivergedEvent.closeAndCheck (c : Word16) (overrun : Bool) (s : State) :
    DivergedEvent s (closeAndCheck c overrun s) := by
  have hcount : DivergedEvent s { s with freeCount := s.freeCount + 1 } := .of_same rfl rfl
  unfold Machine.closeAndCheck
  split
  · exact hcount.trans ((DivergedEvent.closeCycle _).trans (.runCheck c overrun true _))
  · exact hcount.trans ((DivergedEvent.runCheck c overrun false _).trans (.closeCycle _))

theorem DivergedEvent.markLabels (number : Word16) (now : Tick) (s : State) :
    DivergedEvent s (markLabels number now s) := by
  unfold Machine.markLabels
  split
  · refine DivergedEvent.trans ?_ (.becomeDiverged _)
    exact .of_same rfl rfl
  · exact .of_same rfl rfl

/-- A MARK taken in the cycle raises DIVERGED as it enters that state. -/
theorem handleMark_diverged_event {s : State} (h : s.mode = .active ∨ s.mode = .mute) (own : Bool) (src : Station)
    (m : MarkBody) : DivergedEvent s (handleMark own src m s) := by
  have htaken : DivergedEvent s (s.markTaken own src m) :=
    .of_same (by rw [markTaken_agree]) (markTaken_events_getLsbD s own src m (by decide))
  rw [handleMark_eq, markJudged_of_cycle h]
  exact htaken.trans ((DivergedEvent.markLabels _ _ _).trans (.closeAndCheck _ _ _))

/-! ### The check at a MARK (O45) -/

/-- A MARK command handles the MARK of a frame taken or sent. -/
theorem markCommand_of {s : State} {c : Instr} {src : Station} {m : MarkBody}
    (h : (∃ frame final, c = .markReceived frame ∧ s.line.tx = none
        ∧ (s.line.rx = .idle ∨ s.line.rx = .busy ∨ ∃ b, s.line.rx = .collecting b)
        ∧ judge s.profile.stations s.own frame = .taken src final (.mark m))
      ∨ (c = .markSent ∧ src = s.own ∧ ∃ final, s.line.tx = some ⟨.mark m, final⟩)) :
    ∃ own, MarkCommand s c own src m := by
  rcases h with ⟨frame, final, hc, htx, hrx, hj⟩ | ⟨hc, hsrc, htx⟩
  · exact ⟨false, .inl ⟨frame, final, hc, rfl, htx, hrx, hj⟩⟩
  · exact ⟨true, .inr ⟨hc, rfl, hsrc, htx⟩⟩

/-- Settles O45. -/
theorem checkFollowsThePluralityDigest : Obligations.CheckFollowsThePluralityDigest := by
  refine ⟨fun q hq hne => plurality_leads hq hne, fun s c src m q h0 hmode hc hq => ?_⟩
  obtain ⟨own, hcmd⟩ := markCommand_of hc
  have hawake : s.mode.awake = true := by rcases hmode with h | h <;> rw [h] <;> rfl
  obtain ⟨u, hu⟩ : ∃ u, u = s.markHeard own src m := ⟨_, rfl⟩
  have hframe := hu.trans (markHeard_frame s own src m)
  have hagree : u.agree = s.agree := by rw [hframe]
  have hfusion : u.fusion = s.fusion := by rw [hframe]
  have hline : u.line = s.line := by rw [hframe]
  have hroster : u.roster = s.roster := by rw [hframe]
  have humode : u.mode = .active ∨ u.mode = .mute := by rw [hframe]; exact hmode
  have hchecked := handleMark_agree humode own src m
  have hlabels := markLabels_agree u own src m
  rw [hline, hroster, hfusion, ← hq] at hchecked
  rw [hfusion, hagree, markTaken_agree, hagree] at hlabels
  refine ⟨handleMark own src m u, s.fusion.overruns, rfl, hu ▸ exec_of_markCommand h0 hawake hcmd, ?history,
    fun hnone => ?none, fun d hd => ?some, ?event⟩
  case history =>
    rw [hchecked, hlabels]
    cases hp : plurality q with
    | none => rw [checked_of_none ((plurality_eq_none_iff q).1 hp)]
    | some d => rw [checked_of_some hp]
  case none =>
    rw [hchecked, checked_of_none hnone, hlabels]
    cases s.fusion.overruns <;> simp
  case some =>
    rw [hchecked, checked_of_some hd, hlabels]
    refine ⟨rfl, rfl, ?_, by rw [← satIncByte_eq]; rfl⟩
    cases s.fusion.overruns <;> rfl
  case event =>
    intro ht hs
    have hheard : DivergedEvent s u := by
      refine .of_same (by rw [hagree]) ?_
      rw [hu]
      cases own
      · exact offer_events_getLsbD _ _ _ _ _ (by decide)
      · rfl
    exact (hheard.trans (handleMark_diverged_event humode own src m)).raises ht hs

end Sys2Proof.Machine
end

section
/-! PROOFS. DEGRADED after the close and the check of a MARK, in either order (O46). -/

namespace Sys2Proof.Machine

/-! ### Generators handed the same zones twice (R175) -/

theorem refresh_handed (g : Gen) (p : Pattern) : (g.refresh p).handed = p := by
  unfold Gen.refresh Gen.hand
  split_ifs with h1 h2 h3
  · exact h1.symm
  · rfl
  · exact h3.symm
  · rfl

theorem refresh_refresh (g : Gen) (p : Pattern) : (g.refresh p).refresh p = g.refresh p :=
  if_pos (refresh_handed g p).symm

theorem refreshGens_refreshGens (zones : List Zone) (gens : List Gen) :
    refreshGens zones (refreshGens zones gens) = refreshGens zones gens := by
  simp only [refreshGens, List.mapIdx_mapIdx]
  exact congrArg (fun f => gens.mapIdx f) (funext fun k => funext fun g => refresh_refresh g _)

/-! ### What each hand-over does to the Warning Unit (R173, R174) -/

theorem setDegraded_setDegraded (a b : Bool) (zones : List Zone) :
    setDegraded a (setDegraded b zones) = setDegraded a zones := by simp [setDegraded]

/-- The Warning Unit after a close that hands over `lost` (R174). -/
def Warn.closed (w : Warn) (lost : Bool) : Warn := { w with
  zones := zonesAfterClose lost w.pendingAgreed w.zones
  gens := refreshGens (zonesAfterClose lost w.pendingAgreed w.zones) w.gens
  lineLost := lost, pendingAgreed := false }

/-- The Warning Unit after a check that hands over the state `st` and the run count `run` (R174). -/
def Warn.checked (w : Warn) (after : Bool) (st : AgreeState) (run : Byte) : Warn := { w with
  zones := zonesAfterCheck st run (after && !w.lineLost) w.zones
  gens := refreshGens (zonesAfterCheck st run (after && !w.lineLost) w.zones) w.gens
  runCount := run, agree := st, pendingAgreed := w.pendingAgreed || (st == .agreed && !after) }

theorem closeCycle_warn {s : State} (hm : s.mode ≠ .lull) :
    (closeCycle s).warn = s.warn.closed (s.roster.close s.own).lineLost := by
  show { s.warn with
    zones := _, gens := if s.mode = .lull then _ else _, lineLost := _, pendingAgreed := false : Warn } = _
  rw [if_neg hm]
  rfl

theorem runCheck_warn {s : State} (hm : s.mode ≠ .lull) (c : Word16) (overrun after : Bool) :
    (runCheck c overrun after s).warn = if qualifying c s.roster.entries = [] then s.warn
      else s.warn.checked after (runCheck c overrun after s).agree.state (runCheck c overrun after s).agree.runCount := by
  rw [runCheck_agree]
  unfold runCheck
  split
  next h => rw [if_pos ((plurality_eq_none_iff _).1 h)]
  next d h =>
    rw [if_neg (fun hq => by simp [(plurality_eq_none_iff _).2 hq] at h), checked_of_some h]
    dsimp only
    rw [applyJudgement_agree]
    unfold takeCheck withZones
    simp only [applyJudgement_warn, applyJudgement_mode]
    rw [if_neg hm]
    rfl

/-! ### Both orders (R174) -/

/-- The zones after the close and the check of one MARK (R173, R174). -/
def zonesAfterMark (lost judged : Bool) (st : AgreeState) (run : Byte) (zones : List Zone) : List Zone :=
  if lost = true ∨ judged = true ∧ 3 ≤ run.toNat then setDegraded true zones
  else if judged = true ∧ st = .agreed then setDegraded false zones
  else zones

/-- The Warning Unit after the close and the check of one MARK: the generators are refreshed once or twice. -/
structure Warn.AfterMark (w t : Warn) (lost judged : Bool) (st : AgreeState) (run : Byte) : Prop where
  zones : t.zones = zonesAfterMark lost judged st run w.zones
  all : ∃ first : List Zone, (first = w.zones ∨ first = t.zones) ∧ t = {
    zones := t.zones, gens := refreshGens t.zones (refreshGens first w.gens)
    lineLost := lost, runCount := if judged then run else w.runCount
    agree := if judged then st else w.agree, pendingAgreed := false, secondDue := w.secondDue }

theorem closed_afterMark {w : Warn} (hp : w.pendingAgreed = false) (lost : Bool) (st : AgreeState) (run : Byte) :
    w.AfterMark (w.closed lost) lost false st run := by
  refine ⟨?_, (w.closed lost).zones, .inr rfl, ?_⟩
  · simp [Warn.closed, zonesAfterClose, zonesAfterMark, hp]
  · rw [refreshGens_refreshGens]
    rfl

theorem closed_checked_afterMark {w : Warn} (hp : w.pendingAgreed = false) (lost : Bool) (st : AgreeState) (run : Byte) :
    w.AfterMark ((w.closed lost).checked true st run) lost true st run := by
  have hzones : ((w.closed lost).checked true st run).zones = zonesAfterMark lost true st run w.zones := by
    simp only [Warn.checked, Warn.closed, zonesAfterClose, zonesAfterCheck, zonesAfterMark, hp]
    cases lost <;> simp [setDegraded_setDegraded]
  refine ⟨hzones, (w.closed lost).zones, ?_, ?_⟩
  · cases lost with
    | false => exact .inl (by simp [Warn.closed, zonesAfterClose, hp])
    | true => exact .inr (by rw [hzones]; simp [Warn.closed, zonesAfterClose, zonesAfterMark])
  · simp [Warn.checked, Warn.closed]

theorem checked_closed_afterMark {w : Warn} (hp : w.pendingAgreed = false) (lost : Bool) {st : AgreeState} {run : Byte}
    (hrun : st = .agreed → run = 0) : w.AfterMark ((w.checked false st run).closed lost) lost true st run := by
  have hzones : ((w.checked false st run).closed lost).zones = zonesAfterMark lost true st run w.zones := by
    simp only [Warn.checked, Warn.closed, zonesAfterClose, zonesAfterCheck, zonesAfterMark, hp]
    by_cases hr : 3 ≤ run.toNat
    · have hst : st ≠ .agreed := fun h => by rw [hrun h] at hr; exact absurd hr (by decide)
      cases lost <;> simp [setDegraded_setDegraded, hr, hst]
    · cases lost <;> simp [hr]
  refine ⟨hzones, (w.checked false st run).zones, ?_, ?_⟩
  · by_cases hr : 3 ≤ run.toNat
    · exact .inr (by rw [hzones]; simp [Warn.checked, zonesAfterCheck, zonesAfterMark, hr])
    · exact .inl (by simp [Warn.checked, zonesAfterCheck, hr])
  · simp [Warn.checked, Warn.closed]

theorem checked_run {a : Agree} {c : Word16} {overrun : Bool} {q : List (Station × Word16)} (hq : q ≠ [])
    (h : (a.checked c overrun q).state = .agreed) : (a.checked c overrun q).runCount = 0 := by
  cases hp : plurality q with
  | none => exact absurd ((plurality_eq_none_iff q).1 hp) hq
  | some d =>
    rw [checked_of_some hp] at h ⊢
    exact if_pos h

/-- The Warning Unit after the close and then the check. -/
theorem closeFirst_warn {s : State} (hm : s.mode ≠ .lull) (c : Word16) (overrun : Bool) :
    (runCheck c overrun true (closeCycle s)).warn = if qualifying c s.roster.entries = [] then
        s.warn.closed (s.roster.close s.own).lineLost
      else (s.warn.closed (s.roster.close s.own).lineLost).checked true (runCheck c overrun true (closeCycle s)).agree.state
        (runCheck c overrun true (closeCycle s)).agree.runCount := by
  rw [runCheck_warn (s := closeCycle s) hm, closeCycle_warn hm, closeCycle_roster, qualifying_congr c (close_taken _ _)]

/-- The Warning Unit after the check and then the close. -/
theorem checkFirst_warn {s : State} (hm : s.mode ≠ .lull) (c : Word16) (overrun : Bool) :
    (closeCycle (runCheck c overrun false s)).warn = if qualifying c s.roster.entries = [] then
        s.warn.closed (s.roster.close s.own).lineLost
      else (s.warn.checked false (runCheck c overrun false s).agree.state
        (runCheck c overrun false s).agree.runCount).closed (s.roster.close s.own).lineLost := by
  have hown : (runCheck c overrun false s).own = s.own := by simp [State.own]
  rw [closeCycle_warn (by rw [runCheck_mode]; exact hm), runCheck_warn hm, runCheck_roster, hown]
  split <;> rfl

theorem closeAndCheck_roster (c : Word16) (overrun : Bool) (s : State) :
    (closeAndCheck c overrun s).roster = s.roster.close s.own := by
  unfold closeAndCheck
  split
  · rw [runCheck_roster, closeCycle_roster]
    rfl
  · rw [closeCycle_roster, runCheck_roster]
    simp [State.own]

/-- DEGRADED after a MARK in the cycle does not depend on the order of the close and the check (R174). -/
theorem closeAndCheck_afterMark {s : State} (hm : s.mode ≠ .lull) (hp : s.warn.pendingAgreed = false) (c : Word16)
    (overrun : Bool) : s.warn.AfterMark (closeAndCheck c overrun s).warn (s.roster.close s.own).lineLost
      (decide (qualifying c s.roster.entries ≠ [])) (closeAndCheck c overrun s).agree.state
      (closeAndCheck c overrun s).agree.runCount := by
  have hrun : qualifying c s.roster.entries ≠ [] → (closeAndCheck c overrun s).agree.state = .agreed →
      (closeAndCheck c overrun s).agree.runCount = 0 := by
    rw [closeAndCheck_agree]
    exact checked_run
  unfold closeAndCheck at hrun ⊢
  split_ifs at hrun ⊢ with hfirst
  · rw [closeFirst_warn (s := { s with freeCount := s.freeCount + 1 }) hm]
    split
    next hq => rw [decide_eq_false (not_not.2 hq)]; exact closed_afterMark hp _ _ _
    next hq => rw [decide_eq_true hq]; exact closed_checked_afterMark hp _ _ _
  · rw [checkFirst_warn (s := { s with freeCount := s.freeCount + 1 }) hm]
    split
    next hq => rw [decide_eq_false (not_not.2 hq)]; exact closed_afterMark hp _ _ _
    next hq => rw [decide_eq_true hq]; exact checked_closed_afterMark hp _ (hrun hq)

/-- Settles O46. -/
theorem degradedFollowsCloseAndCheckInEitherOrder : Obligations.DegradedFollowsCloseAndCheckInEitherOrder := by
  intro s c src m h0 hmode hp hc
  obtain ⟨own, hcmd⟩ := markCommand_of hc
  have hawake : s.mode.awake = true := by rcases hmode with h | h <;> rw [h] <;> rfl
  have hvmode : (s.markCounted own src m).mode ≠ .lull := by
    have h : (s.markCounted own src m).mode = s.mode.afterMark := by
      cases own <;> simp [State.markCounted, State.markHeard, State.markTaken]
    rw [h]
    rcases hmode with h | h <;> rw [h] <;> exact Mode.noConfusion
  have hvwarn : (s.markCounted own src m).warn = s.warn := by
    cases own <;> simp [State.markCounted, State.markHeard, State.markTaken]
  have hvroster : (s.markCounted own src m).roster.entries.map RosterEntry.taken
      = s.roster.entries.map RosterEntry.taken := by
    rw [State.markCounted, markLabels_roster, markTaken_roster, markHeard_frame]
    exact hear_taken src s.roster
  have hexec : exec c s = .next (closeAndCheck s.line.cycle s.fusion.overruns (s.markCounted own src m)) := by
    rw [exec_of_markCommand h0 hawake hcmd, handleMark_counted, markJudged_of_cycle hmode]
  obtain ⟨hzones, first, hfirst, hall⟩ :=
    closeAndCheck_afterMark hvmode (by rw [hvwarn]; exact hp) s.line.cycle s.fusion.overruns
  rw [hvwarn] at hzones hfirst hall
  rw [qualifying_congr _ hvroster] at hzones hall
  have hlost : (closeAndCheck s.line.cycle s.fusion.overruns (s.markCounted own src m)).roster.lineLost
      = ((s.markCounted own src m).roster.close (s.markCounted own src m).own).lineLost := by
    rw [closeAndCheck_roster]
  rw [← hlost] at hzones hall
  exact ⟨_, decide (qualifying s.line.cycle s.roster.entries ≠ []), hexec, decide_eq_true_iff,
    by rw [hall], hzones, first, hfirst, hall⟩

end Sys2Proof.Machine
end

section
/-! PROOFS. The computed level of a zone (O48). -/

namespace Sys2Proof.Machine

/-! ### The greatest level of a list (R168) -/

theorem rank_max (a b : Level) : (a.max b).rank = max a.rank b.rank := by
  cases a <;> cases b <;> rfl

theorem max_eq_or (a b : Level) : a.max b = a ∨ a.max b = b := by
  cases a <;> cases b <;> simp [Level.max, Level.rank]

/-- The running maximum is one of the levels met, and no level met ranks above it. -/
theorem foldl_max_spec {α : Type} (level : α → Level) (xs : List α) (m : Level) :
    m.rank ≤ (xs.foldl (fun m x => m.max (level x)) m).rank
      ∧ (∀ x ∈ xs, (level x).rank ≤ (xs.foldl (fun m x => m.max (level x)) m).rank)
      ∧ (xs.foldl (fun m x => m.max (level x)) m = m
        ∨ ∃ x ∈ xs, level x = xs.foldl (fun m x => m.max (level x)) m) := by
  induction xs generalizing m with
  | nil => simp
  | cons x xs ih =>
    obtain ⟨hm, hall, hex⟩ := ih (m.max (level x))
    rw [rank_max] at hm
    rw [List.foldl_cons]
    refine ⟨by omega, fun y hy => ?_, ?_⟩
    · rcases List.mem_cons.1 hy with rfl | hy
      · omega
      · exact hall y hy
    · rcases hex with h | ⟨y, hy, hl⟩
      · rcases max_eq_or m (level x) with h' | h'
        · exact .inl (h.trans h')
        · exact .inr ⟨x, List.mem_cons_self, (h.trans h').symm⟩
      · exact .inr ⟨y, List.mem_cons_of_mem _ hy, hl⟩

/-! ### The computed level (R168) -/

theorem frontsLevel_ge {p : Profile} {yard : Tick} {z : Fin 8} {slots : List Front} {f : Front} {l : Level}
    (hf : f ∈ slots) (hl : frontLevel p yard z f = some l) : l.rank ≤ (frontsLevel p yard z slots).rank := by
  have h := (foldl_max_spec (fun f => (frontLevel p yard z f).getD .clear) slots .clear).2.1 f hf
  rw [hl] at h
  exact h

/-- Above CLEAR the greatest level is that of a slot. -/
theorem frontsLevel_attained {p : Profile} {yard : Tick} {z : Fin 8} {slots : List Front}
    (h : frontsLevel p yard z slots ≠ .clear) :
    ∃ f ∈ slots, frontLevel p yard z f = some (frontsLevel p yard z slots) := by
  obtain ⟨f, hf, hl⟩ :=
    (foldl_max_spec (fun f => (frontLevel p yard z f).getD .clear) slots .clear).2.2.resolve_left h
  refine ⟨f, hf, ?_⟩
  change (frontLevel p yard z f).getD .clear = frontsLevel p yard z slots at hl
  cases hfl : frontLevel p yard z f with
  | none => rw [hfl] at hl; exact absurd hl.symm h
  | some l => rw [hfl] at hl; exact congrArg some hl

/-- The driving source is the lowest-numbered slot of the level (R168). -/
theorem sourceOf_spec {p : Profile} {yard : Tick} {z : Fin 8} {l : Level} {slots : List Front}
    (h : ∃ f ∈ slots, frontLevel p yard z f = some l) : ∃ i f, slots[i]? = some f
      ∧ sourceOf p yard z l slots = .front i f.id ∧ frontLevel p yard z f = some l
      ∧ ∀ j f', j < i → slots[j]? = some f' → frontLevel p yard z f' ≠ some l := by
  obtain ⟨⟨f, i⟩, hfind⟩ : ∃ x, slots.zipIdx.find? (fun (f, _) => frontLevel p yard z f == some l) = some x := by
    obtain ⟨f, hf, hl⟩ := h
    obtain ⟨i, hi, rfl⟩ := List.getElem_of_mem hf
    refine Option.isSome_iff_exists.1 (List.find?_isSome.2 ⟨(slots[i], i), ?_, by simp [hl]⟩)
    exact List.mem_zipIdx_iff_getElem?.2 (List.getElem?_eq_getElem hi)
  obtain ⟨hp, k, hk, hget, hbefore⟩ := List.find?_eq_some_iff_getElem.1 hfind
  simp only [List.getElem_zipIdx, Prod.mk.injEq, Nat.zero_add] at hget
  obtain ⟨hf, rfl⟩ := hget
  have hlen : k < slots.length := by simpa using hk
  refine ⟨k, f, by rw [List.getElem?_eq_getElem hlen, hf], by rw [sourceOf, hfind], by simpa using hp,
    fun j f' hj hf' hl => ?_⟩
  have hj' := hbefore j hj
  obtain ⟨hjlen, rfl⟩ := List.getElem?_eq_some_iff.1 hf'
  simp [hl] at hj'

/-! ### The level that one slot gives (R167) -/

theorem leadOf_le_iff (a yard : Tick) (n : Nat) : leadOf a yard ≤ n ↔ (a - yard).toInt ≤ n := by
  rw [leadOf, tickDiff, Int.toNat_le]

theorem strong_iff (p : Profile) (f : Front) : f.strong p = true
    ↔ (∃ d, f.dustI = some d ∧ 2 ≤ d.val) ∨ f.dustI = none ∨ ∃ v, f.peakI = some v ∧ p.strongGust ≤ v := by
  cases hd : f.dustI <;> cases hp : f.peakI <;> simp [Front.strong, hd, hp]

theorem nearZone_iff (p : Profile) (f : Front) (z : Fin 8) : nearZone p f z = true
    ↔ ∃ o c, f.track.head? = some o ∧ p.zones[z.val]? = some c
      ∧ distance (p.position o.station) (c.cx, c.cy) ≤ p.watchDistance := by
  cases ho : f.track.head? <;> cases hc : p.zones[z.val]? <;> simp [nearZone, ho, hc]

theorem frontLevel_of_time {p : Profile} {yard a : Tick} {z : Fin 8} {f : Front} (hs : f.state ≠ .free)
    (ha : f.arrivals[z.val]? = some (.time a)) : frontLevel p yard z f
      = if f.state = .decaying then some .watch
        else if leadOf a yard ≤ p.alarmLeadT ∧ f.strong p then some .alarm
        else if leadOf a yard ≤ p.warnLeadT then some .warn
        else some .watch := by
  rw [frontLevel, if_neg hs, List.getD_eq_getElem?_getD, ha]
  rfl

theorem frontLevel_of_no_time {p : Profile} {yard : Tick} {z : Fin 8} {f : Front} (hs : f.state ≠ .free)
    (ha : ∀ a, f.arrivals[z.val]? ≠ some (.time a)) : frontLevel p yard z f
      = if f.state = .forming ∧ nearZone p f z then some .watch else some .clear := by
  rw [frontLevel, if_neg hs, List.getD_eq_getElem?_getD]
  split
  next a h =>
    cases hz : f.arrivals[z.val]? with
    | none => rw [hz] at h; cases h
    | some x => rw [hz] at h; exact absurd (hz.trans (congrArg some h)) (ha a)
  next => rfl

theorem computed_of_override {s : State} (h : s.detector.localOverride = true) (z : Fin 8) :
    s.computed z = (.alarm, .ownGust) := if_pos h

theorem computed_of_fronts {s : State} (h : s.detector.localOverride = false) (z : Fin 8) : s.computed z
    = (frontsLevel s.profile s.time.yardClock z s.table.slots,
      if frontsLevel s.profile s.time.yardClock z s.table.slots = .clear then .none
      else sourceOf s.profile s.time.yardClock z (frontsLevel s.profile s.time.yardClock z s.table.slots)
        s.table.slots) := if_neg (by simp [h])

/-- Settles O48. -/
theorem computedLevelIsTheGreatestFrontLevel : Obligations.ComputedLevelIsTheGreatestFrontLevel := by
  refine ⟨fun p yard z f => ⟨fun h => if_pos h,
      fun a hs ha => ⟨fun hd => ?decaying, fun hd hlead hstrong => ?alarm, fun hd hlow => ?low⟩,
      fun hs ha => ?untimed⟩,
    fun s z => ⟨fun ho => computed_of_override ho z, fun ho => ?fronts⟩⟩
  case decaying => rw [frontLevel_of_time hs ha, if_pos hd]
  case alarm =>
    rw [frontLevel_of_time hs ha, if_neg hd, if_pos ⟨(leadOf_le_iff _ _ _).2 hlead, (strong_iff p f).2 hstrong⟩]
  case low =>
    have hnot : ¬(leadOf a yard ≤ p.alarmLeadT ∧ f.strong p = true) := by
      rw [leadOf_le_iff, strong_iff]
      rintro ⟨hlead, hstrong⟩
      rcases hlow with hfar | ⟨⟨d, hd, hweak⟩, hpeak⟩
      · omega
      · rcases hstrong with ⟨d', hd', h2⟩ | hnone | ⟨v, hv, h3⟩
        · rw [hd] at hd'
          cases hd'
          omega
        · rw [hd] at hnone
          cases hnone
        · have := hpeak v hv
          omega
    rw [frontLevel_of_time hs ha, if_neg hd, if_neg hnot]
    simp only [leadOf_le_iff]
  case untimed =>
    rw [frontLevel_of_no_time hs ha]
    have hnear := nearZone_iff p f z
    by_cases h : f.state = .forming ∧ nearZone p f z = true
    · rw [if_pos h]
      exact ⟨⟨fun _ => ⟨h.1, hnear.1 h.2⟩, fun _ => rfl⟩, .inl rfl⟩
    · rw [if_neg h]
      refine ⟨⟨fun h' => by simp at h', fun ⟨hf, hn⟩ => absurd ⟨hf, hnear.2 hn⟩ h⟩, .inr rfl⟩
  case fronts =>
    rw [computed_of_fronts ho]
    refine ⟨fun f hf l hl => frontsLevel_ge hf hl, fun hc => if_pos hc, fun hc => ?_⟩
    obtain ⟨i, f, hget, hsource, hlevel, hfirst⟩ := sourceOf_spec (frontsLevel_attained hc)
    exact ⟨i, f, hget, (if_neg hc).trans hsource, hlevel, hfirst⟩

end Sys2Proof.Machine
end

section
/-! PROOFS. Levels fall by the hold timer alone (O50). -/

namespace Sys2Proof.Machine

/-! ### A zone record at an evaluation (R170, R171) -/

theorem rank_injective {a b : Level} (h : a.rank = b.rank) : a = b := by
  cases a <;> cases b <;> simp_all [Level.rank]

theorem rank_fall (l : Level) : l.fall.rank = l.rank - 1 := by cases l <;> rfl

/-- A zone above its computed level keeps it and runs its hold timer (R170). -/
theorem applyLevel_of_gt {c : Level × Source} {z : Zone} (h : c.1.rank < z.level.rank) (holdT : Nat) :
    applyLevel holdT c z = { z with hold := some (z.hold.getD holdT) } := by
  rw [applyLevel, if_neg (Nat.lt_asymm h), if_pos h]

/-- A zone at its computed level takes its source and stops its hold timer (R170). -/
theorem applyLevel_of_eq {c : Level × Source} {z : Zone} (h : c.1 = z.level) (holdT : Nat) :
    applyLevel holdT c z = { z with hold := none, source := c.2 } := by
  rw [applyLevel, h, if_neg (Nat.lt_irrefl _), if_neg (Nat.lt_irrefl _)]

/-- The record after the hold timer's expiry, written out (R171). -/
theorem fallZone_eq (holdT : Nat) (c : Level × Source) (z : Zone) : fallZone holdT c z = { z with
    level := (match z.level with | .alarm => .warn | .warn => .watch | .watch => .clear | .clear => .clear)
    ack := false
    hold := if c.1.rank < z.level.rank - 1 then some holdT else none
    source := if c.1.rank = z.level.rank - 1 then c.2 else z.source } := by
  have hsource : c.1 = z.level.fall ↔ c.1.rank = z.level.rank - 1 := by
    rw [← rank_fall]
    exact ⟨fun h => by rw [h], rank_injective⟩
  unfold fallZone
  rw [if_congr hsource rfl rfl, rank_fall]
  rfl

/-! ### The timed commands (R166, R171) -/

theorem exec_perSecondEvaluation {s : State} (h0 : s.resetHeld = false) (hm : s.mode.runs = true)
    (hdue : s.warn.secondDue = true) (hwarning : ∃ z ∈ s.warn.zones, z.level ≠ .clear) :
    exec .perSecondEvaluation s = .next (evaluate { s with warn := { s.warn with secondDue := false } }) := by
  have hany : s.warn.anyWarning = true := by
    obtain ⟨z, hz, hl⟩ := hwarning
    exact List.any_eq_true.2 ⟨z, hz, by simpa using hl⟩
  exact congrArg _ (if_pos ⟨runs_of_mode h0 hm, hdue, hany⟩)

theorem exec_holdExpiry {s : State} {k : Fin 4} {z : Zone} (h0 : s.resetHeld = false) (hm : s.mode.runs = true)
    (hz : s.warn.zones[k.val]? = some z) (hhold : z.hold = some 0) :
    exec (.holdExpiry k) s = .next (finishAtTick (evaluateAtExpiry k.val s)) := by
  have hdue : s.holdDue k.val = true := by simp [State.holdDue, runs_of_mode h0 hm, hz, hhold]
  exact congrArg _ (if_pos hdue)

/-! ### The evaluation at an expiry (R171) -/

theorem evaluateAtExpiry_zones (k : Nat) (s : State) : (evaluateAtExpiry k s).warn.zones
    = s.warn.zones.mapIdx (fun i r => if i = k then fallZone s.profile.holdT (s.computed r.zone) r
        else applyLevel s.profile.holdT (s.computed r.zone) r) := rfl

theorem evaluateAtExpiry_fallen {s : State} {k : Nat} {z : Zone} (hz : s.warn.zones[k]? = some z) :
    (evaluateAtExpiry k s).warn.zones[k]? = some (fallZone s.profile.holdT (s.computed z.zone) z) := by
  rw [evaluateAtExpiry_zones, List.getElem?_mapIdx, hz, Option.map_some, if_pos rfl]

/-- The other channels are evaluated as at any evaluation. -/
theorem evaluateAtExpiry_other {s : State} {j k : Nat} (hj : j ≠ k) :
    (evaluateAtExpiry k s).warn.zones[j]? = (evaluate s).warn.zones[j]? := by
  rw [evaluateAtExpiry_zones, evaluate_zones, List.getElem?_mapIdx, List.getElem?_map]
  simp only [if_neg hj]

theorem evaluateAtExpiry_quiet {s : State} {k : Nat} (h : ∀ (j : Nat) (y : Zone), j ≠ k → s.warn.zones[j]? = some y →
    (s.computed y.zone).1.rank ≤ y.level.rank) : (evaluateAtExpiry k s).panel.events = s.panel.events := by
  have hany : s.warn.zones.zipIdx.any (fun (r, i) => i != k && raisesLoud (s.computed r.zone) r) = false := by
    refine List.any_eq_false.2 fun ⟨y, j⟩ hmem => ?_
    by_cases hj : j = k
    · simp [hj]
    · simp [raisesLoud_eq_false (.inl (h j y hj (List.mem_zipIdx_iff_getElem?.1 hmem)))]
  show withEvent _ .zoneRaised s.panel.events = _
  rw [hany]
  rfl

/-- Settles O50. -/
theorem levelsFallByTheHoldTimerAlone : Obligations.LevelsFallByTheHoldTimerAlone := by
  refine ⟨⟨fun s h0 hm hdue hwarning => exec_perSecondEvaluation h0 hm hdue hwarning,
    fun s => ⟨fun k z hz => ⟨fun hlt => ?above, fun heq => ?level⟩, by rw [evaluate_zones, List.length_map],
      evaluate_warn s, rfl⟩⟩, fun s k z h0 hm hz hhold => ?expiry⟩
  case above => rw [evaluate_zones_getElem? hz, applyLevel_of_gt hlt]
  case level => rw [evaluate_zones_getElem? hz, applyLevel_of_eq heq]
  case expiry =>
    refine ⟨_, exec_holdExpiry h0 hm hz hhold, ?_, ?_, rfl, fun j hj => evaluateAtExpiry_other hj,
      fun h => evaluateAtExpiry_quiet h, rfl⟩
    · exact (evaluateAtExpiry_fallen hz).trans (congrArg some (fallZone_eq _ _ z))
    · rw [evaluateAtExpiry_zones, List.length_mapIdx]

end Sys2Proof.Machine
end

section
/-! PROOFS. The pattern generators and the lamp and siren lines (O51). -/

namespace Sys2Proof.Machine

/-! ### Handing a pattern (R175 to R177) -/

theorem wantedAt_of_none {zones : List Zone} {k : Nat} (h : zones[k]? = none) : wantedAt zones k = .off := by
  simp only [wantedAt, h]

theorem withZones_gen {s : State} {k : Nat} {g : Gen} (zones : List Zone) (hg : s.warn.gens[k]? = some g) :
    (withZones zones s).warn.gens[k]?
      = some (if s.mode = .lull ∨ wantedAt zones k = g.handed then g else g.hand (wantedAt zones k)) := by
  show (if s.mode = .lull then s.warn.gens else refreshGens zones s.warn.gens)[k]? = _
  by_cases hm : s.mode = .lull
  · rw [if_pos hm, if_pos (.inl hm), hg]
  · rw [if_neg hm, refreshGens, List.getElem?_mapIdx, hg]
    by_cases hp : wantedAt zones k = g.handed <;> simp [Gen.refresh, hp, hm]

theorem hand_of_running {g : Gen} (h : g.running = true) (p : Pattern) :
    g.hand p = { g with preload := p, handed := p } := if_pos h

theorem hand_off_of_stopped {g : Gen} (h : g.running = false) : g.hand .off = { g with handed := .off } := by
  rw [Gen.hand, if_neg (by simp [h]), if_pos rfl]

theorem hand_of_stopped {g : Gen} {p : Pattern} (h : g.running = false) (hp : p ≠ .off) :
    g.hand p = ⟨true, 0, p, p, p⟩ := by rw [Gen.hand, if_neg (by simp [h]), if_neg hp]

theorem output_iff (g : Gen) : g.output = true ↔ g.running = true ∧ g.counter < g.shown.onTime := by
  simp [Gen.output]

theorem onTime_pos {p : Pattern} (h : p ≠ .off) : 0 < p.onTime := by
  cases p <;> simp_all [Pattern.onTime]

/-- The on-times of R175. -/
theorem onTime_of_mem {p : Pattern} {d : Nat}
    (h : (p, d) ∈ [(Pattern.alarm, 30), (.warn, 50), (.watch, 30), (.fault, 150)]) : p.onTime = d := by
  simp only [List.mem_cons, Prod.mk.injEq, List.not_mem_nil, or_false] at h
  rcases h with ⟨rfl, rfl⟩ | ⟨rfl, rfl⟩ | ⟨rfl, rfl⟩ | ⟨rfl, rfl⟩ <;> rfl

theorem modify_of_getElem? {α : Type} {l : List α} {i : Nat} {x : α} (f : α → α) (h : l[i]? = some x) :
    l.modify i f = l.set i (f x) := by
  have : Inhabited α := ⟨x⟩
  rw [List.modify_eq_set, h]
  rfl

theorem exec_patternPeriodEnd {s : State} {k : Fin 4} {g : Gen} (h0 : s.resetHeld = false) (hm : s.mode.runs = true)
    (hg : s.warn.gens[k.val]? = some g) (hr : g.running = true) (hc : g.counter = g.shown.period) :
    exec (.patternPeriodEnd k) s
      = .next { s with warn := { s.warn with gens := s.warn.gens.set k.val g.periodEnd } } := by
  have hdue : s.patternDue k.val = true := by simp [State.patternDue, runs_of_mode h0 hm, hg, hr, hc]
  rw [← modify_of_getElem? Gen.periodEnd hg]
  exact congrArg _ (if_pos hdue)

/-! ### The lamp and siren lines (R178 to R181) -/

theorem lampOn_iff (s : State) (k : Fin 4) : s.lampOn k = true
    ↔ (∃ z, s.warn.zones[k.val]? = some z) ∧ ∃ g, s.warn.gens[k.val]? = some g ∧ g.output = true := by
  unfold State.lampOn
  cases s.warn.gens[k.val]? <;> simp [Option.isSome_iff_exists]

theorem onLow_iff (s : State) : s.onLow = true ↔ ∃ c, s.loader.loaded = some c ∧ c.entry.onLow = true := by
  unfold State.onLow
  cases s.loader.loaded <;> simp

theorem sirenOn_iff (s : State) (k : Fin 4) : s.sirenOn k = true
    ↔ (∃ z, s.warn.zones[k.val]? = some z ∧ z.level = .alarm ∧ z.ack = false) ∧ s.mode ≠ .lull := by
  unfold State.sirenOn
  cases s.warn.zones[k.val]? <;> simp

theorem lampLine_of_runs {s : State} (h0 : s.resetHeld = false) (hm : s.mode.runs = true) (k : Fin 4) :
    s.lampLine k = if s.lampOn k = s.onLow then .low else .high := by
  have hd : s.drivesOutputs = true := runs_of_mode h0 hm
  rw [State.lampLine, if_pos hd]
  cases s.lampOn k <;> cases s.onLow <;> rfl

theorem sirenLine_of_runs {s : State} (h0 : s.resetHeld = false) (hm : s.mode.runs = true) (k : Fin 4) :
    s.sirenLine k = if s.sirenOn k then .high else .low := if_pos (runs_of_mode h0 hm)

/-- Outside the states in which the outputs are driven the lines are released (R179). -/
theorem lines_of_not_runs {s : State} (hm : s.mode.runs = false) (k : Fin 4) :
    s.lampLine k = .released ∧ s.sirenLine k = .released := by
  have hd : ¬s.drivesOutputs = true := by simp [State.drivesOutputs, State.runs, hm]
  exact ⟨if_neg hd, if_neg hd⟩

/-- Settles O51. -/
theorem generatorsTakeTheirPatterns : Obligations.GeneratorsTakeTheirPatterns := by
  refine ⟨fun z => ?wanted, fun s zones k g p hg hsome hnone => ?handed,
    fun g p q => ⟨fun hr => ?stopped, fun hr => ?running⟩, fun g p d hmem hshown => ?onTime, rfl,
    fun s k g h0 hm hg hr hc => exec_patternPeriodEnd h0 hm hg hr hc,
    fun s k on onLow h0 hon hlow => ⟨fun hm => ⟨?lamp, fun hz hl => ?siren, fun h => ?silent⟩,
      fun hm => lines_of_not_runs hm k⟩⟩
  case wanted =>
    refine ⟨fun h => ?_, fun h => ?_, fun h => ?_, fun h => ?_⟩ <;> simp only [Zone.wanted, h]
  case handed =>
    have hp : p = wantedAt zones k := by
      cases hz : zones[k]? with
      | none => rw [wantedAt_of_none hz, hnone hz]
      | some z => rw [wantedAt_of_zone hz, hsome z hz]
    rw [hp, withZones_gen zones hg]
  case stopped =>
    rw [hand_off_of_stopped hr]
    refine ⟨hr, by simp [Gen.output, hr], fun hp => ?_⟩
    rw [hand_of_stopped hr hp]
    exact ⟨rfl, rfl, rfl, rfl, (output_iff _).2 ⟨rfl, onTime_pos hp⟩⟩
  case running =>
    have hhand : ∀ r, (g.hand r).running = true := fun r => by rw [hand_of_running hr]; exact hr
    rw [hand_of_running (hhand p), hand_of_running (hhand .off), hand_of_running hr, hand_of_running hr,
      hand_of_running hr]
    exact ⟨by rw [hr], rfl, rfl, rfl, fun hp => ⟨by simpa [Gen.periodEnd] using hp, rfl⟩⟩
  case onTime =>
    rw [output_iff, hshown, onTime_of_mem hmem]
  case lamp =>
    have hlamp : s.lampOn k = on := Bool.eq_iff_iff.2 ((lampOn_iff s k).trans hon.symm)
    have hpolarity : s.onLow = onLow := Bool.eq_iff_iff.2 ((onLow_iff s).trans hlow.symm)
    rw [lampLine_of_runs h0 hm, hlamp, hpolarity]
  case siren => rw [sirenLine_of_runs h0 hm, if_pos ((sirenOn_iff s k).2 ⟨hz, hl⟩)]
  case silent =>
    rw [sirenLine_of_runs h0 hm, if_neg]
    rw [sirenOn_iff]
    rintro ⟨⟨z, hz, hl, ha⟩, hmode⟩
    rcases h with h | h
    · rcases h z hz with h' | h' <;> simp_all
    · exact hmode h

end Sys2Proof.Machine
end

section
/-! PROOFS. The local tick, the calibration window, and the wakes (O52 and O55). -/

namespace Sys2Proof.Machine

/-! ### The local tick (R151, R152, R158) -/

theorem exec_localTick_of_idle {s : State} (h0 : s.resetHeld = false) (hm : s.mode.runs = false) :
    exec .localTick s = .next (idleTick s) := by
  show execLocalTick s = _
  cases hmode : s.mode <;> simp_all [execLocalTick, Mode.runs, Mode.awake]

theorem exec_localTick_of_awake {s : State} (h0 : s.resetHeld = false) (hm : s.mode.awake = true) :
    exec .localTick s = .next (awakeTick s) := by
  show execLocalTick s = _
  simp [execLocalTick, h0, hm]

theorem exec_localTick_of_lull {s : State} (h0 : s.resetHeld = false) (hm : s.mode = .lull) :
    exec .localTick s = .next (lullTick s) := by
  show execLocalTick s = _
  simp [execLocalTick, h0, hm, Mode.awake]

theorem tickWindow_eq (w : Option Nat) : tickWindow w = some (match w with | some k => k - 1 | none => 50) := by
  cases w <;> rfl

/-- The state of an awake station at a tick, before the timers that count in every running state. -/
def awakeCounted (s : State) : State := { s with
  time := { s.time.advance with capture := s.time.capture + 100, calibLeft := tickWindow s.time.calibLeft }
  line := { s.line with listenLeft := countDown s.line.listenLeft, openTimer := s.line.openTimer.tick }
  warn := { s.warn with gens := s.warn.gens.map Gen.tick } }

/-- The state of a station in LULL at a tick, before those timers. -/
def lullCounted (s : State) : State := { s with
  time := { s.time.advance with
    acc := s.time.acc + 50 * s.time.periodsToTick - s.time.rate
    capture := s.time.capture + BitVec.ofNat 32 ((s.time.capAcc + 5000 * s.time.periodsToTick) / s.time.rate)
    capAcc := (s.time.capAcc + 5000 * s.time.periodsToTick) % s.time.rate
    wake := s.time.wake.map (WakeTimer.tick s.time.periodsToTick) }
  line := { s.line with openTimer := s.line.openTimer.lullTick s.time.periodsToTick } }

/-- What the timers that count ticks in every running state do (R62, R75, R170). -/
theorem tickTimers_counts (s : State) :
    (tickTimers s).sensor = { s.sensor with periodLeft := s.sensor.periodLeft.map (· - 1) }
      ∧ (tickTimers s).detector = { s.detector with refractoryLeft := s.detector.refractoryLeft.map (· - 1) }
      ∧ (tickTimers s).warn.zones = s.warn.zones.map (fun z => { z with hold := z.hold.map (· - 1) })
      ∧ (tickTimers s).warn.secondDue = (s.time.yardClock.toNat % 100 == 0)
      ∧ tickTimers s = { s with
          sensor := (tickTimers s).sensor, detector := (tickTimers s).detector, warn := (tickTimers s).warn } :=
  ⟨rfl, rfl, rfl, rfl, rfl⟩

/-- The lull periods to the next tick are the fewest that bring the accumulator to the rate (R158). -/
theorem periodsToTick_spec (t : Timebase) : t.rate ≤ t.acc + 50 * t.periodsToTick
    ∧ ∀ m, m < t.periodsToTick → t.acc + 50 * m < t.rate := by
  unfold Timebase.periodsToTick
  exact ⟨by omega, fun m hm => by omega⟩

theorem wakeTick_eq (n : Nat) (w : WakeTimer) : w.tick n
    = if w.units + (w.sub + n) / 64 < w.target then ⟨w.target, w.units + (w.sub + n) / 64, (w.sub + n) % 64⟩
      else ⟨w.target, w.target, 0⟩ := by
  unfold WakeTimer.tick
  by_cases h : w.target ≤ w.units + (w.sub + n) / 64
  · rw [if_pos h, if_neg (Nat.not_lt.2 h)]
  · rw [if_neg h, if_pos (Nat.not_le.1 h)]

/-! ### The calibration window (R162) -/

theorem countAccepted_iff (n : Nat) : countAccepted n = true ↔ 12288 ≤ n ∧ n ≤ 20480 := by simp [countAccepted]

theorem exec_calibrationWindowEnd {s : State} (h0 : s.resetHeld = false) (hm : s.mode.awake = true)
    (hc : s.time.calibLeft = some 0) (n : Nat) :
    exec (.calibrationWindowEnd n) s = .next (finishAtTick (judgeWindow n s)) :=
  congrArg _ (if_pos ⟨awake_of_mode h0 hm, hc⟩)

theorem judgeWindow_of_accepted {n : Nat} (h : countAccepted n = true) (s : State) : judgeWindow n s = { s with
    time := { s.time with rate := n, lullGood := true, calibLeft := some 50 } } := by
  simp [judgeWindow, h]

theorem judgeWindow_of_rejected {n : Nat} (h : countAccepted n = false) (s : State) : judgeWindow n s = { s with
    time := { s.time with lullGood := false, calibLeft := some 50 }
    counters := { s.counters with calibrationRejects := satInc s.counters.calibrationRejects } } := by
  simp [judgeWindow, h]

/-- Settles O52. -/
theorem clocksTickAndAreCalibrated : Obligations.ClocksTickAndAreCalibrated := by
  refine ⟨fun s h0 => ?tick, fun s n h0 hm hc => ⟨fun hlo hhi => ?accepted, fun hout => ?rejected⟩⟩
  case accepted =>
    rw [exec_calibrationWindowEnd h0 hm hc, judgeWindow_of_accepted ((countAccepted_iff n).2 ⟨hlo, hhi⟩)]
  case rejected =>
    have hr : countAccepted n = false := by
      rw [Bool.eq_false_iff, ne_eq, countAccepted_iff]
      omega
    rw [exec_calibrationWindowEnd h0 hm hc, judgeWindow_of_rejected hr]
  case tick =>
    by_cases hruns : s.mode.runs = true
    · by_cases hawake : s.mode.awake = true
      · obtain ⟨hsensor, hdetector, hzones, hsecond, -⟩ := tickTimers_counts (awakeCounted s)
        have hl : s.mode ≠ .lull := fun h => by rw [h] at hawake; cases hawake
        refine ⟨_, exec_localTick_of_awake h0 hawake, rfl, rfl, rfl, fun h => absurd h (by simp [hruns]),
          fun _ => ⟨hsensor, hdetector, hzones, hsecond, rfl⟩, fun _ => ⟨rfl, tickWindow_eq _, rfl, fun k g hg => ?gens⟩,
          fun h => absurd h hl⟩
        case gens => exact (List.getElem?_map ..).trans (congrArg (Option.map Gen.tick) hg)
      · have hmode : s.mode = .lull := by cases hm : s.mode <;> simp_all [Mode.runs, Mode.awake]
        obtain ⟨hsensor, hdetector, hzones, hsecond, -⟩ := tickTimers_counts (lullCounted s)
        obtain ⟨hreach, hleast⟩ := periodsToTick_spec s.time
        refine ⟨_, exec_localTick_of_lull h0 hmode, rfl, rfl, rfl, fun h => absurd h (by simp [hruns]),
          fun _ => ⟨hsensor, hdetector, hzones, hsecond, rfl⟩, fun h => absurd h hawake,
          fun _ => ⟨rfl, s.time.periodsToTick, hreach, hleast, rfl, fun _ => ⟨rfl, rfl⟩, fun w hw => ?wake,
            fun p hp => ?timer⟩⟩
        case wake =>
          rw [← wakeTick_eq]
          exact congrArg (Option.map (WakeTimer.tick s.time.periodsToTick)) hw
        case timer =>
          exact congrArg (fun o => { s.line with openTimer := OpenTimer.lullTick s.time.periodsToTick o }) hp
    · have hidle : s.mode.runs = false := by simpa using hruns
      have hawake : s.mode.awake ≠ true := fun h => by cases hm : s.mode <;> simp_all [Mode.runs, Mode.awake]
      have hlull : s.mode ≠ .lull := fun h => by rw [h] at hidle; cases hidle
      exact ⟨_, exec_localTick_of_idle h0 hidle, rfl, rfl, rfl, fun _ => rfl, fun h => absurd h hruns,
        fun h => absurd h hawake, fun h => absurd h hlull⟩

/-! ### Wakes (R159 to R161, R181) -/

/-- The outputs resume at a wake, each generator as if it were stopped (R181). -/
theorem resumeGens_gen {zones : List Zone} {gens : List Gen} {k : Nat} {g : Gen} (h : gens[k]? = some g) :
    (resumeGens zones gens)[k]?
      = some (if wantedAt zones k = .off then Gen.stopped else
          ⟨true, 0, wantedAt zones k, wantedAt zones k, wantedAt zones k⟩) := by
  rw [resumeGens, List.getElem?_mapIdx, h, Option.map_some]
  by_cases hq : wantedAt zones k = .off
  · rw [if_pos hq, hq, hand_off_of_stopped rfl]
    rfl
  · rw [if_neg hq, hand_of_stopped rfl hq]

theorem exec_wakeTimerExpiry {s : State} {w : WakeTimer} (h0 : s.resetHeld = false) (hm : s.mode = .lull)
    (hw : s.time.wake = some w) (hd : w.left ≤ s.time.periodsToTick) :
    exec .wakeTimerExpiry s = .next (wakeAfter w.left false s) := by
  have hdue : s.wakeDue = true := by simp [State.wakeDue, h0, hm, hw, hd]
  have hleft : s.wakeLeft = w.left := by simp [State.wakeLeft, hw]
  rw [← hleft]
  exact congrArg _ (if_pos hdue)

theorem exec_openTimerExpiry_of_lull {s : State} {p : Nat} (h0 : s.resetHeld = false) (hm : s.mode = .lull)
    (hp : s.line.openTimer = .lull p) (hd : p ≤ s.time.periodsToTick) :
    exec .openTimerExpiry s = .next (wakeAfter p true s) := by
  have hdue : s.openDueInLull = true := by simp [State.openDueInLull, h0, hm, hp, hd]
  have hleft : s.line.openTimer.periodsLeft = p := by rw [hp]; rfl
  refine (congrArg Host.Outcome.next (if_pos hdue)).trans ?_
  rw [hleft]

/-- Settles O55. -/
theorem wakesReturnToActive : Obligations.WakesReturnToActive := by
  intro s w p d h0 hm hw hp hd
  subst hd
  refine ⟨fun hdue => ⟨_, exec_wakeTimerExpiry h0 hm hw hdue, rfl, ?_, rfl, rfl, fun k g hg => ⟨_, rfl, resumeGens_gen hg⟩,
    rfl⟩, fun hdue => ⟨_, exec_openTimerExpiry_of_lull h0 hm hp hdue, rfl, rfl, rfl, rfl,
    fun k g hg => ⟨_, rfl, resumeGens_gen hg⟩, rfl⟩⟩
  rw [wakeAfter_line, hp]
  rfl

end Sys2Proof.Machine
end

section
/-! PROOFS. LULL entry (O53). -/

namespace Sys2Proof.Machine

/-! ### The conditions (R156) -/

theorem lullReady_iff (s : State) : s.lullReady = true ↔ s.resetHeld = false ∧ s.profile.lullAllowed = true
    ∧ s.mode = .active ∧ s.line.cadence = .quiet ∧ s.line.opp = .ended ∧ s.line.wakePending = false
    ∧ s.fusion.fusing = none ∧ s.fusion.waiting = none ∧ s.agree.staging.held = false
    ∧ s.agree.staging.active = false ∧ s.outbound = [] ∧ s.detector.state = .calm
    ∧ (∀ z ∈ s.warn.zones, z.level = .clear) ∧ s.time.lullGood = true ∧ s.line.tx = none := by
  simp [State.lullReady, State.fusionIdle, Warn.allClear, and_assoc]

/-! ### The open timer at the entry (R155, R157) -/

/-- The ms that the open timer has run at the entry: none where it started with the command. -/
theorem remainingMs_of_ms {s : State} {d k : Nat} (b : Nat) (h : s.line.openTimer = .ms d k) :
    s.remainingMs b
      = d - if s.line.openFresh then 0 else elapsedMs k b (Config.startPhase s.freeCount) := by
  rw [State.remainingMs, h]
  dsimp only
  split <;> rfl

theorem remainingMs_of_stopped {s : State} (b : Nat) (h : ∀ d k, s.line.openTimer ≠ .ms d k) : s.remainingMs b = 0 := by
  unfold State.remainingMs
  split
  next d k ho => exact absurd ho (h d k)
  next => rfl

/-- Settles O53. -/
theorem lullIsEnteredOnItsTenConditions : Obligations.LullIsEnteredOnItsTenConditions := by
  intro s
  obtain ⟨hlow, hhigh⟩ := capturePhase_bounds s
  refine ⟨lullReady_iff s, rfl, rfl, hlow, hhigh, fun a ha h => edgeOffset_of_edge ha h, fun h => edgeOffset_of_none h,
    fun b => ⟨fun h => finishAt_of_not_ready h, fun h => ?ready⟩⟩
  rw [finishAt_of_ready h]
  refine ⟨rfl, rfl, fun d k ho => ?running, fun ho => ?stopped, rfl, rfl⟩
  case running =>
    obtain ⟨hstart, hend⟩ := elapsedMs_bounds k b (Config.startPhase s.freeCount)
    refine ⟨if s.line.openFresh then 0 else elapsedMs k b (Config.startPhase s.freeCount), fun hf => if_pos hf,
      fun hf => ?_, ?_⟩
    · rw [if_neg (by simp [hf])]
      exact ⟨Nat.le_succ_of_le hstart, hend⟩
    · rw [enterLull_line, remainingMs_of_ms b ho]
  case stopped =>
    rw [enterLull_line, remainingMs_of_stopped b ho]
    simp

end Sys2Proof.Machine
end

section
/-! PROOFS. The Line Trace: what is recorded, the freeze, and ARM TRACE (O56). -/

namespace Sys2Proof.Machine

/-! ### An offer (R186, R187) -/

theorem passes_iff (t : TraceSettings) (src : Option Station) : t.passes src = true
    ↔ (∃ i, src = some i ∧ (BitVec.ofNat 5 i.val ^^^ t.srcValue) &&& t.srcMask = 0) ∨ src = none ∧ t.srcMask = 0 := by
  cases src <;> simp [TraceSettings.passes]

theorem records_iff (t : Trace) (k : TraceKind) (src : Option Station) : t.records k src = true
    ↔ t.frozen = false ∧ (t.settings.mode = .all ∨ t.settings.mode = .matching
      ∧ t.settings.kindSet.getLsbD k.bit = true ∧ ((∃ i, src = some i
          ∧ (BitVec.ofNat 5 i.val ^^^ t.settings.srcValue) &&& t.settings.srcMask = 0)
        ∨ src = none ∧ t.settings.srcMask = 0)) := by
  rw [← passes_iff]
  cases hm : t.settings.mode <;> simp [Trace.records, hm, inSet]

theorem traceOffer_of_refused {t : Trace} {e : TraceEntry} (h : t.records e.kind e.source = false) :
    t.offer e = t := if_neg (by simp [h])

theorem traceOffer_of_recorded {t : Trace} {e : TraceEntry} (h : t.records e.kind e.source = true) :
    t.offer e = { t with
      ring := pushEntry t.ring e
      frozen := t.settings.freezeSet.getLsbD e.kind.bit
      reason := if t.settings.freezeSet.getLsbD e.kind.bit then some e.kind else t.reason } := if_pos h

/-- An event that is not recorded changes nothing (R186). -/
theorem offer_of_refused {s : State} {k : TraceKind} {src : Option Station} (h : s.trace.records k src = false)
    (fr : Option FrameKind) (d : Detail) : offer k src fr d s = s := by
  have hf : s.trace.freezes (s.entryFor k src fr d) = false := by
    show (s.trace.records k src && _) = false
    rw [h]
    rfl
  rw [offer, traceOffer_of_refused (e := s.entryFor k src fr d) h, hf]
  rfl

/-- A recorded event freezes the ring exactly when its kind is in the freeze set (R187). -/
theorem freezes_of_recorded {s : State} {k : TraceKind} {src : Option Station} (h : s.trace.records k src = true)
    (fr : Option FrameKind) (d : Detail) :
    s.trace.freezes (s.entryFor k src fr d) = s.trace.settings.freezeSet.getLsbD k.bit := by
  show (s.trace.records k src && _) = _
  rw [h]
  rfl

/-! ### The ring of 48 entries (R184) -/

theorem pushEntry_getLast (ring : List TraceEntry) (e : TraceEntry) : (pushEntry ring e).getLast? = some e := by
  rw [pushEntry, List.getLast?_drop, if_neg (by simp)]
  simp

theorem pushEntry_dropLast (ring : List TraceEntry) (e : TraceEntry) (h : ring.length ≤ 48) :
    (pushEntry ring e).dropLast = ring.drop (ring.length + 1 - 48) := by
  rw [pushEntry, List.drop_append_of_le_length (by omega)]
  simp

/-! ### ARM TRACE (R189, R195, R198) -/

theorem traceModeOf_byte {m : Byte} (h : m.toNat ≤ 2) :
    traceModeOf m.toNat = if m = 0 then .off else if m = 1 then .all else .matching := by
  have h0 : m = 0 ↔ m.toNat = 0 := ⟨fun h => by rw [h]; rfl, fun h => BitVec.eq_of_toNat_eq h⟩
  have h1 : m = 1 ↔ m.toNat = 1 := ⟨fun h => by rw [h]; rfl, fun h => BitVec.eq_of_toNat_eq h⟩
  rw [if_congr h0 rfl (if_congr h1 rfl rfl)]
  obtain h | h | h : m.toNat = 0 ∨ m.toNat = 1 ∨ m.toNat = 2 := by omega
  all_goals rw [h]; rfl

theorem traceArgsOk_iff (m v k : Byte) : traceArgsOk m v k = true ↔ m.toNat ≤ 2 ∧ v.toNat < 32 ∧ k.toNat < 32 := by
  simp [traceArgsOk, and_assoc]

theorem exec_armTrace {s : State} (h0 : s.resetHeld = false) (hs : s.serves = true) (m a b v k c d e : Byte) :
    exec (.armTrace [m, a, b, v, k, c, d, e]) s
      = .next (noteTaken [m, a, b, v, k, c, d, e] (if traceArgsOk m v k then
          answerOk [] { s with trace := s.trace.arm (traceSettingsOf m a b v k c d) (e.getLsbD 0) }
        else answerRejected s)) :=
  congrArg Host.Outcome.next (serve_of_count h0 hs rfl)

/-- Settles O56. -/
theorem traceRecordsFreezesAndIsArmed : Obligations.TraceRecordsFreezesAndIsArmed := by
  refine ⟨fun s k src fr d recorded hrec => ⟨fun h => ?refused, fun h => ⟨_, rfl, ?recorded⟩⟩,
    fun s m a b v k c d e h0 hs => ⟨fun hm hv hk => ?armed, fun hbad => ?rejected⟩⟩
  case refused =>
    have hr : s.trace.records k src = false := by
      rw [Bool.eq_false_iff, ne_eq, records_iff, ← hrec, h]
      exact Bool.false_ne_true
    exact offer_of_refused hr fr d
  case recorded =>
    have hr : s.trace.records k src = true := (records_iff _ _ _).2 (hrec.1 h)
    have hthawed : s.trace.frozen = false := (hrec.1 h).1
    have htrace : (offer k src fr d s).trace = _ := traceOffer_of_recorded (e := s.entryFor k src fr d) hr
    have hpanel : (offer k src fr d s).panel = { s.panel with
        events := withEvent (s.trace.settings.freezeSet.getLsbD k.bit) .traceFrozen s.panel.events } := by
      rw [offer_panel, freezes_of_recorded hr]
    refine ⟨?newest, fun hlen => ?room, fun hlen => ?full, by rw [htrace], fun hf => ?freezes, fun hf => ?stays, rfl⟩
    case newest =>
      rw [htrace]
      exact pushEntry_getLast _ _
    case room =>
      rw [htrace]
      refine (pushEntry_dropLast _ _ hlen.le).trans ?_
      rw [Nat.sub_eq_zero_of_le hlen, List.drop_zero]
    case full =>
      rw [htrace]
      refine (pushEntry_dropLast _ _ hlen.le).trans ?_
      rw [hlen]
    case freezes =>
      rw [htrace, hpanel, hf]
      refine ⟨hf, if_pos hf, rfl⟩
    case stays =>
      rw [htrace, hpanel, hf]
      refine ⟨hf, if_neg (by simp [State.entryFor, hf]), rfl⟩
  case armed =>
    rw [exec_armTrace h0 hs, if_pos ((traceArgsOk_iff m v k).2 ⟨hm, hv, hk⟩), traceSettingsOf, traceModeOf_byte hm]
    cases e.getLsbD 0 <;> rfl
  case rejected =>
    have hbad' : ¬traceArgsOk m v k = true := by
      rw [traceArgsOk_iff]
      omega
    rw [exec_armTrace h0 hs, if_neg hbad']
    rfl

end Sys2Proof.Machine
end

section
/-! PROOFS. A frame composed is collected and read back as it was: the framing and the codes (for O57). -/

namespace Sys2Proof.Machine

/-! ### Collecting an undisturbed frame (R86) -/

/-- Clean characters give their bytes. -/
theorem goodChars_cleanChars (bytes : List Byte) (rest : List RxChar) :
    goodChars bytes.length (cleanChars bytes ++ rest) = some bytes := by
  induction bytes with
  | nil => rfl
  | cons b bytes ih =>
    show (if true && decide (0 ≤ 400) then (goodChars bytes.length (cleanChars bytes ++ rest)).map (b :: ·) else none) = _
    rw [ih]
    rfl

theorem goodChars_clean {n : Nat} {bytes : List Byte} (h : bytes.length = n) :
    goodChars n (cleanChars bytes) = some bytes := by
  subst h
  simpa using goodChars_cleanChars bytes []

/-- A frame with a payload of at most 64 bytes is collected whole. -/
theorem collect_clean (h : Byte) (payload : List Byte) (crc : Word16) (hlen : payload.length ≤ 64) :
    collect (cleanChars (0x6B :: (h :: byteOf payload.length :: payload ++ be16 crc)))
      = .whole h (byteOf payload.length) payload crc := by
  have hl : (byteOf payload.length).toNat = payload.length := byteOf_toNat (by omega)
  have hhead : goodChars 2 (cleanChars (h :: byteOf payload.length :: payload ++ be16 crc))
      = some [h, byteOf payload.length] := by
    simpa [cleanChars] using goodChars_cleanChars [h, byteOf payload.length] (cleanChars (payload ++ be16 crc))
  have hbody : goodChars ((byteOf payload.length).toNat + 2)
      ((cleanChars (h :: byteOf payload.length :: payload ++ be16 crc)).drop 2) = some (payload ++ be16 crc) := by
    have hdrop : (cleanChars (h :: byteOf payload.length :: payload ++ be16 crc)).drop 2
        = cleanChars (payload ++ be16 crc) := rfl
    rw [hdrop, hl]
    exact goodChars_clean (by simp [be16])
  show collect (⟨0x6B, true, 0⟩ :: cleanChars (h :: byteOf payload.length :: payload ++ be16 crc)) = _
  rw [collect, if_pos ⟨rfl, rfl⟩, hhead]
  dsimp only
  rw [if_pos (by omega), hbody]
  dsimp only
  rw [hl]
  simp [be16]

/-! ### The header byte (R88) -/

theorem headerByte_toNat (k : FrameKind) (final : Bool) (src : Station) :
    (headerByte k final src).toNat = k.code.toNat * 64 + (flagByte final).toNat * 32 + src.val := by
  have hk : k.code.toNat ≤ 3 := by cases k <;> decide
  have hf : (flagByte final).toNat ≤ 1 := by cases final <;> decide
  exact byteOf_toNat (by omega)

theorem headerSource_header (k : FrameKind) (final : Bool) (src : Station) :
    headerSource (headerByte k final src) = src := by
  apply Fin.ext
  rw [headerSource, headerByte_toNat]
  show _ % 32 = _
  omega

theorem headerKind_header (k : FrameKind) (final : Bool) (src : Station) :
    headerKind (headerByte k final src) = k := by
  have hf : (flagByte final).toNat ≤ 1 := by cases final <;> decide
  have hdiv : (headerByte k final src).toNat / 64 = k.code.toNat := by
    rw [headerByte_toNat]
    omega
  rw [headerKind, hdiv]
  cases k <;> rfl

theorem headerFinal_header (k : FrameKind) (final : Bool) (src : Station) :
    headerFinal (headerByte k final src) = final := by
  have hbit : (headerByte k final src).toNat.testBit 5 = final := by
    rw [headerByte_toNat, Nat.testBit_eq_decide_div_mod_eq]
    cases final <;> simp [flagByte] <;> omega
  exact hbit

/-! ### A frame whose payload reads back is taken (R90) -/

/-- An undisturbed frame whose payload passes the FIELD check is taken as it was composed. -/
theorem judge_of_read {n : Nat} {src own : Station} {b : Body} (final : Bool) (hsrc : src.val < n) (hown : src ≠ own)
    (hlen : (b.payload n).length ≤ 64) (hallowed : lengthAllowed b.kind (b.payload n).length = true)
    (hread : readBody n b.kind src (b.payload n) = some b) :
    judge n own (cleanChars (frameBytes n src final b)) = .taken src final b := by
  have hl : (byteOf (b.payload n).length).toNat = (b.payload n).length := byteOf_toNat (by omega)
  have hcollect : collect (cleanChars (frameBytes n src final b)) = .whole (headerByte b.kind final src)
      (byteOf (b.payload n).length) (b.payload n)
      (crc16 (headerByte b.kind final src :: byteOf (b.payload n).length :: b.payload n)) :=
    collect_clean _ _ _ hlen
  rw [judge, hcollect]
  dsimp only
  rw [headerKind_header, headerSource_header, headerFinal_header, hl, hallowed, hread, if_neg (by simp), if_neg (by simp),
    if_neg (by omega), if_neg hown]

end Sys2Proof.Machine
end

section
/-! PROOFS. The payloads of MARK, PRESENCE and SIGHTING read back as composed (for O57). -/

namespace Sys2Proof.Machine

/-! ### Codes (R88) -/

theorem ofSpeedCode_speedCode {o : Option Nat} (h : ∀ v, o = some v → v ≤ 1022) : ofSpeedCode (speedCode o) = some o := by
  cases o with
  | none => rfl
  | some v =>
    have hv := h v rfl
    have hn : (BitVec.ofNat 16 v).toNat = v := by
      rw [BitVec.toNat_ofNat]
      omega
    rw [speedCode, ofSpeedCode, hn, if_pos hv]

theorem ofSectorCode_sectorCode (o : Option (Fin 16)) : ofSectorCode (sectorCode o) = some o := by
  cases o with
  | none => rfl
  | some v =>
    have hn : (byteOf v.val).toNat = v.val := byteOf_toNat (by omega)
    rw [sectorCode, ofSectorCode, hn, if_pos (by omega)]
    exact congrArg (fun x => some (some x)) (Fin.ext (Nat.mod_eq_of_lt v.isLt))

theorem ofDustCode_dustCode (o : Option (Fin 4)) : ofDustCode (dustCode o) = some o := by
  cases o with
  | none => rfl
  | some v =>
    have hn : (byteOf v.val).toNat = v.val := byteOf_toNat (by omega)
    rw [dustCode, ofDustCode, hn, if_pos (by omega)]
    exact congrArg (fun x => some (some x)) (Fin.ext (Nat.mod_eq_of_lt v.isLt))

theorem readAgree_code (a : AgreeState) : readAgree a.code = some a := by cases a <;> rfl

theorem readChannel_channelByte (c : Option (Fin 8 × Level)) : readChannel (channelByte c) = some c := by
  cases c with
  | none => rfl
  | some x =>
    obtain ⟨z, l⟩ := x
    have hl : l.code.toNat ≤ 3 := by cases l <;> decide
    have hn : (byteOf (z.val * 16 + l.code.toNat)).toNat = z.val * 16 + l.code.toNat := byteOf_toNat (by omega)
    have hzone : (Fin.ofNat 8 ((z.val * 16 + l.code.toNat) / 16) : Fin 8) = z := by
      apply Fin.ext
      show _ % 8 = _
      omega
    have hlevel : ofLevelCode (z.val * 16 + l.code.toNat) = l := by
      have hmod : (z.val * 16 + l.code.toNat) % 4 = l.code.toNat := by omega
      rw [ofLevelCode, hmod]
      cases l <;> rfl
    rw [channelByte, readChannel, hn, if_pos (by omega), if_pos (by omega), hzone, hlevel]

/-- The four flags of a PRESENCE (R88). -/
theorem presenceFlags_bits (p : Presence) : (presenceFlags p).toNat < 16
    ∧ (presenceFlags p).getLsbD 0 = p.fused.isSome ∧ (presenceFlags p).getLsbD 1 = p.alert
    ∧ (presenceFlags p).getLsbD 2 = p.needTable ∧ (presenceFlags p).getLsbD 3 = p.sensorFault := by
  unfold presenceFlags
  generalize p.fused.isSome = a
  generalize p.alert = b
  generalize p.needTable = c
  generalize p.sensorFault = d
  revert a b c d
  decide

/-! ### Payloads (R88) -/

theorem readMark_payload {n : Nat} (hn : n ≤ 32) (m : MarkBody) : readMark n (markPayload n m) = some m := by
  have hb : (byteOf n).toNat = n := byteOf_toNat (by omega)
  unfold markPayload be16 be32
  simp only [List.cons_append, List.nil_append, readMark, hb, if_true, ofBe16_be16, ofBe32_be32]
  obtain ⟨cycle, time, cadence⟩ := m
  cases cadence <;> rfl

theorem readPresence_payload {p : Presence} (hlen : p.channels.length = 4) (hd : p.fused.isSome = p.digest.isSome)
    (hw : ∀ v, p.wind = some v → v ≤ 1022) : readPresence (presencePayload p) = some p := by
  obtain ⟨hflags, hfused, halert, htable, hfault⟩ := presenceFlags_bits p
  unfold presencePayload be16
  simp only [List.cons_append, List.nil_append, readPresence, if_pos hflags, hfused, halert, htable, hfault, ofBe16_be16,
    readAgree_code, ofSpeedCode_speedCode hw, ofSectorCode_sectorCode, readChannel_channelByte]
  obtain ⟨cycle, fused, digest, profileDigest, alert, needTable, sensorFault, agree, wind, sector, channels⟩ := p
  obtain ⟨a, b, c, d, rfl⟩ : ∃ a b c d, channels = [a, b, c, d] := List.length_eq_four.1 hlen
  cases fused <;> cases digest <;> simp_all

theorem readSighting_payload {src : Station} {g : Sighting} (hsrc : g.source = src)
    (hp : ∀ v, g.peak = some v → v ≤ 1022)
    (hk : g.kind = .onset ∧ g.onsetRef = none ∧ g.cut = false ∨ g.kind = .subside ∧ g.onsetRef.isSome = true) :
    readSighting src (sightingPayload g) = some g := by
  unfold sightingPayload be16 be32
  simp only [List.cons_append, List.nil_append, readSighting, ofSpeedCode_speedCode hp, ofSectorCode_sectorCode,
    ofDustCode_dustCode, ofBe16_be16, ofBe32_be32]
  obtain ⟨kind, source, sid, onsetRef, time, peak, sector, dust, cut⟩ := g
  subst hsrc
  rcases hk with ⟨rfl, rfl, rfl⟩ | ⟨rfl, href⟩
  · rfl
  · obtain ⟨ref, rfl⟩ := Option.isSome_iff_exists.1 href
    cases cut <;> rfl

end Sys2Proof.Machine
end

section
/-! PROOFS. The TRANSFER payload reads back as composed, and with it every frame (O57). -/

namespace Sys2Proof.Machine

/-! ### Entries (R89) -/

theorem speedCode_le {o : Option Nat} (h : ∀ v, o = some v → v ≤ 1022) : (speedCode o).toNat ≤ 1023 := by
  cases o with
  | none => decide
  | some v =>
    have hv := h v rfl
    rw [speedCode, BitVec.toNat_ofNat]
    omega

theorem sectorCode_le (o : Option (Fin 16)) : (sectorCode o).toNat ≤ 31 := by
  revert o
  decide

theorem dustCode_le (o : Option (Fin 4)) : (dustCode o).toNat ≤ 7 := by
  revert o
  decide

theorem flagByte_le (b : Bool) : (flagByte b).toNat ≤ 1 := by cases b <;> decide

theorem byteOf_byte (b : Byte) : byteOf b.toNat = b :=
  (BitVec.ofNat_toNat 8 b).trans (BitVec.setWidth_eq b)

/-- The packed field of an entry: peak, sector and the subsided flag (R89). -/
def packedField (e : Entry) : Nat :=
  (speedCode e.peak).toNat * 64 + (sectorCode e.sector).toNat * 2 + (flagByte e.subsided).toNat

theorem packedField_toNat {e : Entry} (h : ∀ v, e.peak = some v → v ≤ 1022) :
    (BitVec.ofNat 16 (packedField e)).toNat = packedField e := by
  have h1 := speedCode_le h
  have h2 := sectorCode_le e.sector
  have h3 := flagByte_le e.subsided
  rw [BitVec.toNat_ofNat, packedField]
  omega

theorem packedField_parts {e : Entry} (h : ∀ v, e.peak = some v → v ≤ 1022) :
    BitVec.ofNat 16 (packedField e / 64) = speedCode e.peak
      ∧ byteOf (packedField e / 2 % 32) = sectorCode e.sector ∧ (packedField e % 2 == 1) = e.subsided := by
  have h1 := speedCode_le h
  have h2 := sectorCode_le e.sector
  have h3 := flagByte_le e.subsided
  have hspeed : packedField e / 64 = (speedCode e.peak).toNat := by unfold packedField; omega
  have hsector : packedField e / 2 % 32 = (sectorCode e.sector).toNat := by unfold packedField; omega
  have hflag : packedField e % 2 = (flagByte e.subsided).toNat := by unfold packedField; omega
  rw [hspeed, hsector, hflag]
  refine ⟨(BitVec.ofNat_toNat 16 _).trans (BitVec.setWidth_eq _), byteOf_byte _, ?_⟩
  cases e.subsided <;> rfl

/-- One entry reads back before the rest (R89). -/
theorem readEntries_cons {e : Entry} (h : ∀ v, e.peak = some v → v ≤ 1022) {rest : List Byte} {es : List Entry}
    (hrest : readEntries rest = some es) : readEntries (entryBytes e ++ rest) = some (e :: es) := by
  have hd := dustCode_le e.dust
  have hb : (byteOf (e.station.val * 8 + (dustCode e.dust).toNat)).toNat = e.station.val * 8 + (dustCode e.dust).toNat :=
    byteOf_toNat (by omega)
  have hstation : (Fin.ofNat 32 ((e.station.val * 8 + (dustCode e.dust).toNat) / 8) : Fin 32) = e.station := by
    apply Fin.ext
    show _ % 32 = _
    omega
  have hdust : (e.station.val * 8 + (dustCode e.dust).toNat) % 8 = (dustCode e.dust).toNat := by omega
  obtain ⟨hpeak, hsector, hsubsided⟩ := packedField_parts h
  have hpacked := packedField_toNat h
  have hentry : entryBytes e = [byteOf (e.station.val * 8 + (dustCode e.dust).toNat), e.sid] ++ be32 e.onset
    ++ be16 (BitVec.ofNat 16 (packedField e)) := rfl
  rw [hentry]
  unfold be16 be32
  simp only [List.cons_append, List.nil_append, readEntries, ofBe16_be16, ofBe32_be32, hpacked, hpeak, hsector, hsubsided,
    hb, hstation, hdust, byteOf_byte, ofSpeedCode_speedCode h, ofSectorCode_sectorCode, ofDustCode_dustCode, hrest]

theorem readEntries_track {track : List Entry} (h : ∀ e ∈ track, ∀ v, e.peak = some v → v ≤ 1022) :
    readEntries (track.flatMap entryBytes) = some track := by
  induction track with
  | nil => rfl
  | cons e es ih =>
    rw [List.flatMap_cons]
    exact readEntries_cons (h e List.mem_cons_self) (ih fun x hx => h x (List.mem_cons_of_mem _ hx))

/-! ### Front records (R89) -/

/-- The first byte of a front record: the state, two flags and the length of the track list. -/
def recordHead (f : Front) : Nat :=
  f.state.code.toNat * 64 + (flagByte f.stalled).toNat * 32 + (flagByte f.valid).toNat * 16 + f.track.length

theorem decide_flag {n : Nat} {b : Bool} (h : n = (flagByte b).toNat) : decide (n = 1) = b := by
  subst h
  cases b <;> rfl

theorem recordHead_parts {f : Front} (h : f.track.length ≤ 6) :
    (byteOf (recordHead f)).toNat / 64 = f.state.code.toNat ∧ (byteOf (recordHead f)).getLsbD 5 = f.stalled
      ∧ (byteOf (recordHead f)).getLsbD 4 = f.valid ∧ (byteOf (recordHead f)).getLsbD 3 = false
      ∧ (byteOf (recordHead f)).toNat % 8 = f.track.length := by
  have hs : f.state.code.toNat ≤ 3 := by cases f.state <;> decide
  have h1 := flagByte_le f.stalled
  have h2 := flagByte_le f.valid
  have hn : (byteOf (recordHead f)).toNat = recordHead f := byteOf_toNat (by unfold recordHead; omega)
  have hbit : ∀ i, (byteOf (recordHead f)).getLsbD i = decide (recordHead f / 2 ^ i % 2 = 1) := by
    intro i
    have h : (byteOf (recordHead f)).getLsbD i = (byteOf (recordHead f)).toNat.testBit i := rfl
    rw [h, hn, Nat.testBit_eq_decide_div_mod_eq]
  rw [hbit, hbit, hbit, hn]
  unfold recordHead
  exact ⟨by omega, decide_flag (by omega), decide_flag (by omega), decide_eq_false (by omega), by omega⟩

theorem toInt_ofInt_velocity {v : Int} (h1 : -3000 ≤ v) (h2 : v ≤ 3000) : (BitVec.ofInt 16 v).toInt = v :=
  BitVec.toInt_ofInt_eq_self (by decide) (by omega) (by omega)

theorem readFrontState_code {st : FrontState} (h : st ≠ .free) : readFrontState st.code.toNat = some st := by
  cases st <;> simp_all <;> rfl

/-- What a well-formed occupied record keeps of its fields (R15). -/
theorem wellFormed_bounds {n : Nat} {f : Front} (hs : f.state ≠ .free) (h : f.wellFormed n 0 = true) :
    (1 ≤ f.track.length ∧ f.track.length ≤ 6) ∧ (∀ e ∈ f.track, ∀ v, e.peak = some v → v ≤ 1022)
      ∧ (-3000 ≤ f.vx ∧ f.vx ≤ 3000) ∧ -3000 ≤ f.vy ∧ f.vy ≤ 3000 := by
  unfold Front.wellFormed at h
  rw [if_neg hs] at h
  simp only [Bool.and_eq_true, decide_eq_true_eq, List.all_eq_true] at h
  obtain ⟨⟨⟨⟨⟨⟨⟨⟨⟨⟨-, hlen⟩, -⟩, -⟩, hrange⟩, hv⟩, -⟩, -⟩, -⟩, -⟩, -⟩ := h
  obtain ⟨⟨⟨hx1, hx2⟩, hy1⟩, hy2⟩ := hv
  refine ⟨hlen, fun e he v hv => ?_, ⟨hx1, hx2⟩, hy1, hy2⟩
  have := hrange e he
  simp only [Entry.inRange, hv, Bool.and_eq_true, decide_eq_true_eq] at this
  exact this.2

theorem readRecord_bytes {n : Nat} {f : Front} (hs : f.state ≠ .free) (hw : f.wellFormed n 0 = true)
    (hdust : f.dustI = none) (hpeak : f.peakI = none) (harr : f.arrivals = []) :
    readRecord n (recordFixed f ++ f.track.flatMap entryBytes) = some f := by
  obtain ⟨⟨-, hlen⟩, hentries, ⟨hx1, hx2⟩, hy1, hy2⟩ := wellFormed_bounds hs hw
  obtain ⟨hstate, hstalled, hvalid, hzero, hlength⟩ := recordHead_parts hlen
  have hfixed : recordFixed f = [byteOf (recordHead f), f.id] ++ be16 (BitVec.ofInt 16 f.vx)
    ++ be16 (BitVec.ofInt 16 f.vy) := rfl
  have hself : ({ state := f.state, id := f.id, stalled := f.stalled, valid := f.valid, vx := f.vx, vy := f.vy
                  track := f.track, dustI := none, peakI := none, arrivals := [] } : Front) = f := by
    rw [← hdust, ← hpeak, ← harr]
  rw [hfixed]
  unfold be16
  simp only [List.cons_append, List.nil_append, readRecord, ofBe16_be16, hstate, readFrontState_code hs,
    readEntries_track hentries, hstalled, hvalid, hzero, hlength, toInt_ofInt_velocity hx1 hx2,
    toInt_ofInt_velocity hy1 hy2, hself, hw, and_self, if_true]

/-! ### The TRANSFER payload (R89) -/

theorem readTransfer_of_none {n : Nat} {t : TransferBody} (hid : t.nextId ≠ 0) (hslot : t.slot = none)
    (hcount : t.count = 0) : readTransfer n (transferPayload t) = some t := by
  obtain ⟨label, digest, nextId, count, slot⟩ := t
  subst hslot hcount
  unfold transferPayload be16
  simp only [List.cons_append, List.nil_append, readTransfer, ofBe16_be16]
  rw [if_pos ⟨hid, by decide⟩, if_pos trivial, if_pos ⟨rfl, trivial⟩]

theorem readTransfer_of_slot {n : Nat} {t : TransferBody} {i : Fin 8} {r : Front} (hid : t.nextId ≠ 0)
    (hslot : t.slot = some (i, r)) (h1 : 1 ≤ t.count) (h8 : t.count ≤ 8)
    (hread : readRecord n (recordFixed r ++ r.track.flatMap entryBytes) = some r) :
    readTransfer n (transferPayload t) = some t := by
  obtain ⟨label, digest, nextId, count, slot⟩ := t
  subst hslot
  change 1 ≤ count at h1
  change count ≤ 8 at h8
  have hcount : (byteOf count).toNat = count := byteOf_toNat (Nat.le_trans h8 (by decide))
  have hindex : (byteOf i.val).toNat = i.val := byteOf_toNat (by omega)
  have hne : byteOf i.val ≠ 0xFF := fun h => by
    rw [h] at hindex
    have : (0xFF : Byte).toNat = 255 := rfl
    omega
  have hzero : byteOf count ≠ 0 := fun h => by
    rw [h] at hcount
    have : (0 : Byte).toNat = 0 := rfl
    omega
  have hfin : (Fin.ofNat 8 i.val : Fin 8) = i := Fin.ext (Nat.mod_eq_of_lt i.isLt)
  unfold transferPayload be16
  simp only [List.cons_append, List.nil_append, readTransfer, ofBe16_be16, hread, hcount, hindex, hfin, Option.map_some]
  rw [if_pos ⟨hid, h8⟩, if_neg hne, if_pos ⟨by omega, hzero⟩]

theorem entryBytes_length (e : Entry) : (entryBytes e).length = 8 := rfl

theorem track_bytes_length (track : List Entry) : (track.flatMap entryBytes).length = 8 * track.length := by
  induction track with
  | nil => rfl
  | cons e es ih =>
    rw [List.flatMap_cons, List.length_append, entryBytes_length, ih, List.length_cons]
    omega

theorem transferPayload_length_of_slot {t : TransferBody} {i : Fin 8} {r : Front} (h : t.slot = some (i, r)) :
    (transferPayload t).length = 13 + 8 * r.track.length := by
  rw [transferPayload, h]
  simp only [List.length_append, List.length_cons, track_bytes_length]
  show 2 + 2 + 2 + (6 + _ + 1) = _
  omega

/-- Settles O57, kind by kind: each payload reads back, so the judged frame is the composed one. -/
theorem framesReadBackAsComposed : Obligations.FramesReadBackAsComposed := by
  intro n src own final hn hsrc hown
  refine ⟨fun m => ?mark, fun p hlen hd hw => ?presence, fun g hg hp hk => ?sighting, fun f hid hf => ?transfer⟩
  case mark =>
    refine judge_of_read (b := .mark m) final hsrc hown (show 8 ≤ 64 by decide) rfl ?_
    exact congrArg (Option.map Body.mark) (readMark_payload hn m)
  case presence =>
    refine judge_of_read (b := .presence p) final hsrc hown (show 17 ≤ 64 by decide) rfl ?_
    exact congrArg (Option.map Body.presence) (readPresence_payload hlen hd hw)
  case sighting =>
    refine judge_of_read (b := .sighting g) final hsrc hown (show 12 ≤ 64 by decide) rfl ?_
    exact congrArg (Option.map Body.sighting) (readSighting_payload hg hp hk)
  case transfer =>
    rcases hf with ⟨hslot, hcount⟩ | ⟨i, r, hslot, h1, h8, hs, hw, hdust, hpeak, harr⟩
    · have hlen : (transferPayload f).length = 7 := by
        rw [transferPayload, hslot]
        rfl
      refine judge_of_read (b := .transfer f) final hsrc hown (hlen.le.trans (by decide)) ?_ ?_
      · show lengthAllowed .transfer (transferPayload f).length = true
        rw [hlen]
        rfl
      · exact congrArg (Option.map Body.transfer) (readTransfer_of_none hid hslot hcount)
    · have hlen := transferPayload_length_of_slot hslot
      obtain ⟨⟨hshort, hlong⟩, -⟩ := wellFormed_bounds hs hw
      refine judge_of_read (b := .transfer f) final hsrc hown (by show (transferPayload f).length ≤ 64; omega) ?_ ?_
      · show lengthAllowed .transfer (transferPayload f).length = true
        rw [hlen]
        generalize r.track.length = k at hshort hlong
        interval_cases k <;> rfl
      · exact congrArg (Option.map Body.transfer)
          (readTransfer_of_slot hid hslot h1 h8 (readRecord_bytes hs hw hdust hpeak harr))

end Sys2Proof.Machine
end

section
/-! PROOFS. The staging at the end of its opportunity, and a held install at the end of a closing step (O47). -/

namespace Sys2Proof.Machine

/-! ### ZONE_RAISED among the pending events -/

theorem withEvent_zoneRaised_bit (b : Bool) (set : Word16) :
    (withEvent b .zoneRaised set).getLsbD 5 = (b || set.getLsbD 5) := by
  rw [withEvent_getLsbD, Bool.or_comm]
  simp [StatusEvent.bit]

/-- While ZONE_RAISED is pending, a further raise changes nothing. -/
theorem withEvent_zoneRaised_of_pending {set : Word16} (h : set.getLsbD 5 = true) (b : Bool) :
    withEvent b .zoneRaised set = set := by
  apply BitVec.eq_of_getLsbD_eq
  intro i hi
  rw [withEvent_getLsbD]
  by_cases h5 : i = 5
  · subst h5
    rw [h, Bool.true_or]
  · simp [StatusEvent.bit, h5]

/-- A second raise of ZONE_RAISED over one that may be pending. -/
theorem withEvent_zoneRaised_or {p q : Bool} {set : Word16} (h : q = true → set.getLsbD 5 = true) :
    withEvent (p || q) .zoneRaised set = withEvent p .zoneRaised set := by
  cases q with
  | false => rw [Bool.or_false]
  | true => rw [withEvent_zoneRaised_of_pending (h rfl), withEvent_zoneRaised_of_pending (h rfl)]

theorem withEvent_zoneRaised_twice (p q : Bool) (set : Word16) :
    withEvent p .zoneRaised (withEvent q .zoneRaised set) = withEvent (p || q) .zoneRaised set := by
  cases p with
  | false => rfl
  | true =>
    rw [Bool.true_or]
    cases q with
    | false => rfl
    | true => exact withEvent_zoneRaised_of_pending (by rw [withEvent_zoneRaised_bit, Bool.true_or]) true

theorem evaluate_zoneRaised (s : State) : (evaluate s).panel.events.getLsbD 5
    = (s.warn.zones.any (fun r => raisesLoud (s.computed r.zone) r) || s.panel.events.getLsbD 5) := by
  rw [evaluate_panel, withEvent_zoneRaised_bit]

/-- The reports of an install raise no ZONE_RAISED. -/
theorem reportSlots_zoneRaised (p : Profile) (label : Word16) (xs : List (Front × Nat)) (s : State) :
    (xs.foldl (reportSlot p label) s).panel.events.getLsbD 5 = s.panel.events.getLsbD 5 := by
  have hreport : ∀ (ctx : ExcContext) (rs : List ExcReport) (u : State),
      (reportAll ctx rs u).panel.events.getLsbD 5 = u.panel.events.getLsbD 5 := by
    intro ctx rs
    induction rs with
    | nil => exact fun u => rfl
    | cons r rs ih =>
      intro u
      refine (ih (report ctx u r)).trans ?_
      show (withEvent _ .exception u.panel.events).getLsbD 5 = _
      rw [withEvent_getLsbD]
      simp [StatusEvent.bit]
  induction xs generalizing s with
  | nil => rfl
  | cons x xs ih =>
    refine (ih _).trans ?_
    unfold reportSlot
    split
    · exact hreport _ _ _
    · rfl

/-! ### The reports of an install -/

/-- The reports of an installed table, slot by slot for the occupied ones (R61). -/
def installReports (p : Profile) (label : Word16) (slots : List Front) (s : State) : State :=
  (slots.zipIdx.filter (fun x => x.1.state != .free)).foldl
    (fun u x =>
      ((if x.1.dustI = none then [(⟨.unsetOperand, 2⟩ : ExcReport)] else [])
        ++ (if x.1.peakI = none then [(⟨.unsetOperand, 3⟩ : ExcReport)] else [])
        ++ (arrivalList p x.1).2).foldl (report ⟨x.1.id, x.2, none, label⟩) u) s

theorem installReports_eq (p : Profile) (g : Staging) (s : State) :
    installReports p g.label (g.table p).slots s
      = (g.slots p.zoneCount).zipIdx.foldl (reportSlot p g.label) s := (reportSlots_eq p g.label _ 0 s).symm

theorem installReports_frame (p : Profile) (g : Staging) (s : State) :
    installReports p g.label (g.table p).slots s = { s with
      exc := (installReports p g.label (g.table p).slots s).exc
      counters := s.counters.withDisabled (installReports p g.label (g.table p).slots s).counters
      panel := { s.panel with events := (installReports p g.label (g.table p).slots s).panel.events } } := by
  rw [installReports_eq]
  exact reportSlots_frame p g.label _ s

theorem installReports_zoneRaised (p : Profile) (g : Staging) (s : State) :
    (installReports p g.label (g.table p).slots s).panel.events.getLsbD 5 = s.panel.events.getLsbD 5 := by
  rw [installReports_eq]
  exact reportSlots_zoneRaised p g.label _ s

theorem ReportsAlike.installReports {b : Bool} {s u : State} (h : ReportsAlike b s u) (p : Profile) (g : Staging) :
    ReportsAlike b (Machine.installReports p g.label (g.table p).slots s)
      (Machine.installReports p g.label (g.table p).slots u) := by
  rw [installReports_eq, installReports_eq]
  exact h.reportSlots p g.label _

/-- What an install leaves, besides the exception record, the entry and the events (R14, R146). -/
theorem install_table_agree_fusion (s : State) : (install s).table = s.agree.staging.table s.profile
    ∧ (clearDiscarded (install s)).agree = { s.agree with
        history := storePair s.agree.history s.agree.staging.label s.agree.staging.digest
        installed := true, staging := Staging.empty }
    ∧ (install s).fusion = { s.fusion with fusing := none, waiting := none, stopping := false } :=
  ⟨install_table s, congrArg (fun a : Agree => { a with staging := { a.staging with discarded := false } })
    (install_agree s), install_fusion s⟩

/-- The end of an opportunity reports what settling its staging reports. -/
theorem endOpportunity_reports (k : Nat) (s : State) : (endOpportunity k s).exc = (settleStaging s).exc
    ∧ (endOpportunity k s).trace = (settleStaging s).trace ∧ (endOpportunity k s).panel = (settleStaging s).panel
    ∧ (endOpportunity k s).fusion = (settleStaging s).fusion := by
  unfold endOpportunity
  split <;> exact ⟨rfl, rfl, rfl, rfl⟩

/-! ### The silence timeout -/

/-- The state in which the staging's entry is offered: a burst cut comes first (R97). -/
def State.cutSeen (s : State) (k : Nat) : State :=
  if s.line.oppFrames then offer .burstCut (some (Fin.ofNat 32 k)) none .none s else s

theorem cutSeen_frame (s : State) (k : Nat) : s.cutSeen k = { s with
    trace := (s.cutSeen k).trace, panel := { s.panel with events := (s.cutSeen k).panel.events } } := by
  unfold State.cutSeen
  split <;> rfl

theorem cutOpportunity_eq (s : State) (k : Nat) :
    cutOpportunity k s = { s.cutSeen k with counters := (cutOpportunity k s).counters } := by
  unfold cutOpportunity State.cutSeen
  split <;> rfl

theorem cutOpportunity_frame (s : State) (k : Nat) : cutOpportunity k s = { s with
    trace := (s.cutSeen k).trace, counters := (cutOpportunity k s).counters
    panel := { s.panel with events := (s.cutSeen k).panel.events } } := by
  unfold cutOpportunity State.cutSeen
  split <;> rfl

/-- Only the counters tell the cut from what is seen of it. -/
theorem cutOpportunity_alike (s : State) (k : Nat) : ReportsAlike false (cutOpportunity k s) (s.cutSeen k) := by
  refine ⟨?_, ?_, fun c => ?_, ?_⟩
  · rw [cutOpportunity_eq]
  · rw [cutOpportunity_eq]
  · rw [cutSeen_frame, cutOpportunity_counters]
    rfl
  · rw [cutOpportunity_eq]
    rfl

theorem settleStaging_agreeState (s : State) : (settleStaging s).agree.state = s.agree.state := by
  by_cases hidle : s.agree.staging.active = false ∨ s.agree.staging.held = true
  · rw [settleStaging_of_idle hidle]
    rfl
  · simp only [not_or, Bool.not_eq_false, Bool.not_eq_true] at hidle
    obtain ⟨ha, hh⟩ := hidle
    cases h : s.agree.staging.endFault s.profile.zoneCount with
    | some r =>
      rw [settleStaging_discards ha hh h]
      rfl
    | none =>
      cases hf : s.fusion.fusing with
      | some l =>
        rw [settleStaging_holds ha hh h (by simp [hf])]
      | none => rw [settleStaging_installs ha hh h hf, (install_table_agree_fusion s).2.1]

/-- A discard at the end of an opportunity (R143, R144). -/
theorem settled_discard {s : State} (k : Nat) (ha : s.agree.staging.active = true) (hh : s.agree.staging.held = false)
    {r : DiscardReason} (h : s.agree.staging.endFault s.profile.zoneCount = some r) :
    (endOpportunity k s).agree = { s.agree with staging := Staging.empty } ∧ (endOpportunity k s).table = s.table
      ∧ (endOpportunity k s).fusion = s.fusion ∧ (endOpportunity k s).exc = s.exc
      ∧ (endOpportunity k s).warn = s.warn
      ∧ (endOpportunity k s).counters
        = { s.counters with transfersDiscarded := satInc s.counters.transfersDiscarded }
      ∧ ((endOpportunity k s).trace, (endOpportunity k s).panel)
        = ((offer .transferDiscarded (some s.agree.staging.source) (some .transfer) (.discard r) s).trace,
          (offer .transferDiscarded (some s.agree.staging.source) (some .transfer) (.discard r) s).panel) := by
  obtain ⟨hagree, htable, hwarn, hcounters⟩ := endOpportunity_settles k s
  obtain ⟨hexc, htrace, hpanel, hfusion⟩ := endOpportunity_reports k s
  rw [hagree, htable, hwarn, hcounters, hexc, htrace, hpanel, hfusion, settleStaging_discards ha hh h]
  exact ⟨rfl, rfl, rfl, rfl, rfl, rfl, rfl⟩

/-- A staging held at the end of its opportunity (R145). -/
theorem settled_hold {s : State} (k : Nat) (ha : s.agree.staging.active = true) (hh : s.agree.staging.held = false)
    (h : s.agree.staging.endFault s.profile.zoneCount = none) (hf : s.fusion.fusing.isSome = true) :
    (endOpportunity k s).agree
        = { s.agree with staging := { s.agree.staging with held := true, discarded := false } }
      ∧ (endOpportunity k s).table = s.table ∧ (endOpportunity k s).fusion = s.fusion
      ∧ ((endOpportunity k s).exc, (endOpportunity k s).trace, (endOpportunity k s).panel) = (s.exc, s.trace, s.panel)
      ∧ (endOpportunity k s).warn = s.warn ∧ (endOpportunity k s).counters = s.counters := by
  obtain ⟨hagree, htable, hwarn, hcounters⟩ := endOpportunity_settles k s
  obtain ⟨hexc, htrace, hpanel, hfusion⟩ := endOpportunity_reports k s
  rw [hagree, htable, hwarn, hcounters, hexc, htrace, hpanel, hfusion, settleStaging_holds ha hh h hf]
  exact ⟨rfl, rfl, rfl, rfl, rfl, rfl⟩

/-- ZONE_RAISED in the evaluation after an install (R146, R169). -/
def State.installRaises (s : State) : Bool :=
  s.warn.zones.any (fun z =>
    raisesLoud (({ s with table := s.agree.staging.table s.profile }).computed z.zone) z)

/-- An install made at the end of an opportunity (R14, R144, R146); its reports, entry and evaluation follow those that
stand in a state `v`. -/
theorem settled_install {s v w : State} (k : Nat) (ha : s.agree.staging.active = true)
    (hh : s.agree.staging.held = false) (h : s.agree.staging.endFault s.profile.zoneCount = none)
    (hf : s.fusion.fusing = none) (halike : ReportsAlike false s v) (ht : s.trace = v.trace) (htime : s.time = v.time)
    (hl : s.line = v.line)
    (hw : w = installReports s.profile s.agree.staging.label (s.agree.staging.table s.profile).slots v) :
    (endOpportunity k s).agree = { s.agree with
        history := storePair s.agree.history s.agree.staging.label s.agree.staging.digest
        installed := true, staging := Staging.empty }
      ∧ (endOpportunity k s).table = s.agree.staging.table s.profile
      ∧ (endOpportunity k s).fusion = { s.fusion with fusing := none, waiting := none, stopping := false }
      ∧ (endOpportunity k s).exc = w.exc
      ∧ (endOpportunity k s).counters = { s.counters.withDisabled w.counters with
          transfersInstalled := satInc s.counters.transfersInstalled }
      ∧ (endOpportunity k s).warn = (evaluate { s with table := s.agree.staging.table s.profile }).warn
      ∧ (endOpportunity k s).trace = (offer .transferInstalled (some s.agree.staging.source) (some .transfer)
          (.count s.agree.staging.expected) w).trace
      ∧ (endOpportunity k s).panel = { s.panel with
          events := withEvent s.installRaises .zoneRaised (offer .transferInstalled
            (some s.agree.staging.source) (some .transfer) (.count s.agree.staging.expected) w).panel.events } := by
  obtain ⟨hagree, htable, hwarn, hcounters⟩ := endOpportunity_settles k s
  obtain ⟨hexc, htrace, hpanel, hfusion⟩ := endOpportunity_reports k s
  obtain ⟨hitable, hiagree, hifusion⟩ := install_table_agree_fusion s
  obtain ⟨hiexc, hicounters, hitrace, hipanel⟩ := install_effects (raised := s.installRaises) halike ht htime hl hw rfl
  rw [hagree, htable, hwarn, hcounters, hexc, htrace, hpanel, hfusion, settleStaging_installs ha hh h hf]
  exact ⟨hiagree, hitable, hifusion, hiexc, hicounters, install_evaluated s, hitrace, hipanel⟩

/-- Settles O47: the timeout's three outcomes, and the install that a closing step takes up. -/
theorem stagingIsSettledAtTheEndOfItsOpportunity : Obligations.StagingIsSettledAtTheEndOfItsOpportunity := by
  refine ⟨fun s v k h0 hm hopp hs htx ha hh hv => ?timeout, fun s l h0 hm hl hempty hheld => ?closing⟩
  case timeout =>
    obtain rfl : v = s.cutSeen k := hv
    refine ⟨_, exec_silenceTimeout h0 hm hopp hs htx, ?_⟩
    generalize hc : cutOpportunity k s = c
    have hframe := cutOpportunity_frame s k
    rw [hc] at hframe
    have hcounters := cutOpportunity_counters k s
    rw [hc] at hcounters
    have hagree : c.agree = s.agree := by rw [hframe]
    have hprofile : c.profile = s.profile := by rw [hframe]; rfl
    have htable : c.table = s.table := by rw [hframe]
    have hfusion : c.fusion = s.fusion := by rw [hframe]
    have hwarn : c.warn = s.warn := by rw [hframe]
    have hkept : (finish (endOpportunity k c)).mode = s.mode
        → (finish (endOpportunity k c)).warn = (endOpportunity k c).warn := fun h =>
      finishAt_warn _ _ (h.trans (by rw [endOpportunity_mode, hframe]))
    rw [finish_agree, finish_fusion, finish_table, finish_zones, finish_counters, finish_trace, finish_panel, finish_exc]
    refine ⟨?state, ?label, fun r hr hfault => ?discards, fun h1 h2 h3 => ⟨fun hf => ?holds, fun hf => ?installs⟩⟩
    case state => rw [(endOpportunity_settles k c).1, settleStaging_agreeState, hagree]
    case label => rw [(Settled.endOpportunity k c).openLabel, hfusion]
    case discards =>
      obtain rfl := hr
      rw [← hagree, ← hprofile] at hfault
      obtain ⟨hagree', htable', hfusion', hexc', hwarn', hcounters', hreports⟩ :=
        settled_discard k (hagree ▸ ha) (hagree ▸ hh) (endFault_of_fault hfault)
      rw [hagree', htable', hfusion', hexc', hwarn', hcounters', hreports, hagree, hprofile, hwarn, hfusion, htable,
        hcounters, ← hc, cutOpportunity_eq]
      exact ⟨rfl, rfl, rfl, by rw [cutSeen_frame], rfl, rfl, rfl⟩
    case holds =>
      obtain ⟨hagree', htable', hfusion', hreports, hwarn', hcounters'⟩ :=
        settled_hold k (hagree ▸ ha) (hagree ▸ hh)
          (endFault_of_complete (hagree ▸ h1) (hagree ▸ hprofile ▸ h2) (hagree ▸ hprofile ▸ h3)) (hfusion ▸ hf)
      rw [hagree', htable', hfusion', hreports, hwarn', hcounters', hagree, hwarn, hfusion, htable,
        hcounters, ← hc, cutOpportunity_eq]
      exact ⟨rfl, rfl, rfl, by rw [cutSeen_frame], rfl, rfl⟩
    case installs =>
      generalize hw : installReports s.profile s.agree.staging.label (s.agree.staging.table s.profile).slots
        (s.cutSeen k) = w
      have hline : c.line = (s.cutSeen k).line := by rw [← hc, cutOpportunity_eq]
      have htime : c.time = (s.cutSeen k).time := by rw [← hc, cutOpportunity_eq]
      have htrace : c.trace = (s.cutSeen k).trace := by rw [← hc, cutOpportunity_eq]
      have halike : ReportsAlike false c (s.cutSeen k) := hc ▸ cutOpportunity_alike s k
      obtain ⟨hagree', htable', hfusion', hexc', hcounters', hwarn', htrace', hpanel'⟩ :=
        settled_install (w := w) k (hagree ▸ ha) (hagree ▸ hh)
          (endFault_of_complete (hagree ▸ h1) (hagree ▸ hprofile ▸ h2) (hagree ▸ hprofile ▸ h3)) (hfusion ▸ hf)
          halike htrace htime hline (by rw [hagree, hprofile, hw])
      have hraises : c.installRaises = s.installRaises := by rw [hframe]; rfl
      have hstaged : c.agree.staging.table c.profile = s.agree.staging.table s.profile := by rw [hagree, hprofile]
      have hevaluated : (endOpportunity k c).warn
          = (evaluate { s with table := s.agree.staging.table s.profile }).warn :=
        hwarn'.trans (evaluate_warn_congr (congrArg State.loader hframe :) hstaged
          (congrArg (fun u : State => u.detector.localOverride) hframe :)
          (congrArg (fun u : State => u.time.yardClock) hframe :) (congrArg State.mode hframe :) hwarn)
      rw [hstaged] at htable'
      rw [hevaluated] at hkept
      obtain ⟨hlength, hslots⟩ := Staging.table_slots s.profile s.agree.staging
      refine ⟨w, s.installRaises, ?_⟩
      rw [hagree', htable', hfusion', hexc', hcounters', hevaluated, htrace', hpanel', hagree, hfusion, hraises]
      refine ⟨rfl, rfl, hlength, hslots, rfl, rfl, historyOf_storePair _ _ _, rfl, hw.symm, rfl, ?counters, rfl, rfl,
        hkept, ?raised, ?panel⟩
      case counters =>
        have hseen : w.counters = s.counters.withDisabled w.counters := by
          rw [← hw, installReports_frame]
          exact congrArg (fun d : Counters => d.withDisabled _) (by rw [cutSeen_frame])
        rw [hseen, hcounters]
        rfl
      case raised => simp only [State.installRaises, raisesLoud_eq]
      case panel => rw [hframe]
  case closing =>
    refine ⟨_, installReports s.profile s.agree.staging.label (s.agree.staging.table s.profile).slots s, _, _,
      execClosingStepEnd_of_empty h0 hm hl hempty, rfl, rfl, ?_⟩
    have hheld' : (closingStep l s).agree.staging.held = true := hheld
    rw [takeUp_of_held hheld']
    generalize hw : installReports s.profile s.agree.staging.label (s.agree.staging.table s.profile).slots s = w
    generalize hx : evaluate { s with table := agedTable s.profile s.table l } = x
    have htable : (install (closingStep l s)).table = s.agree.staging.table s.profile := install_table _
    have hwarn : (install (closingStep l s)).warn
        = (evaluate { x with table := s.agree.staging.table s.profile }).warn := by
      rw [install_evaluated, ← hx]
      rfl
    have halike : ReportsAlike (s.warn.zones.any (fun z =>
        raisesLoud (({ s with table := agedTable s.profile s.table l }).computed z.zone) z)) (closingStep l s) s :=
      ⟨rfl, rfl, fun _ => rfl, rfl⟩
    obtain ⟨hexc, hcounters, htrace, hpanel⟩ :=
      install_effects (w := w) (raised := (closingStep l s).installRaises) halike rfl rfl rfl hw.symm rfl
    obtain ⟨hlength, hslots⟩ := Staging.table_slots s.profile s.agree.staging
    have hkept : (finish (install (closingStep l s))).mode = s.mode → (finish (install (closingStep l s))).warn
        = (evaluate { x with table := s.agree.staging.table s.profile }).warn := fun h =>
      (finishAt_warn _ _ (h.trans (by simp))).trans hwarn
    rw [finish_agree, finish_fusion, finish_table, finish_zones, finish_counters, finish_trace, finish_panel, finish_exc,
      htable, hwarn, hexc, hcounters, htrace, hpanel, install_agree, install_fusion]
    refine ⟨rfl, hkept, rfl, rfl, hlength, hslots, rfl, rfl, rfl, historyOf_storePair _ _ _, rfl, hw.symm, rfl, ?counters,
      rfl, ?panel⟩
    case counters =>
      have hseen : w.counters = s.counters.withDisabled w.counters := by
        rw [← hw, installReports_frame]
        rfl
      rw [hseen]
      rfl
    case panel =>
      have hraised : (evaluate { x with table := s.agree.staging.table s.profile }).panel.events.getLsbD 5
          = ((closingStep l s).installRaises || (s.warn.zones.any (fun z =>
            raisesLoud (({ s with table := agedTable s.profile s.table l }).computed z.zone) z)
            || s.panel.events.getLsbD 5)) := by
        have hfirst := evaluate_zoneRaised { s with table := agedTable s.profile s.table l }
        rw [hx] at hfirst
        rw [evaluate_zoneRaised, ← hfirst, ← hx]
        rfl
      have hpending : s.panel.events.getLsbD 5 = true → (offer .transferInstalled (some s.agree.staging.source)
          (some .transfer) (.count s.agree.staging.expected) w).panel.events.getLsbD 5 = true := fun h => by
        rw [offer_events_getLsbD _ _ _ _ _ (by decide), ← hw, installReports_zoneRaised, h]
      rw [hraised, ← Bool.or_assoc, withEvent_zoneRaised_or hpending, ← withEvent_zoneRaised_twice]
      rfl

end Sys2Proof.Machine
end

section
/-! PROOFS. What settling a staging shows of itself (R144, R145), for a frame that moves the opportunity counter. -/

namespace Sys2Proof.Machine

/-! ### The outcomes of settling a staging -/

/-- What becomes of the staging of an opportunity that ends (R144, R145). -/
inductive Settling where
  | kept
  | discarded (r : DiscardReason)
  | held
  | installed

/-- The outcome that the record and the FUSING label give. -/
def State.settling (s : State) : Settling :=
  if s.agree.staging.active && !s.agree.staging.held then
    match s.agree.staging.endFault s.profile.zoneCount with
    | some r => .discarded r
    | none => if s.fusion.fusing.isSome then .held else .installed
  else .kept

theorem settling_of_idle {s : State} (h : s.agree.staging.active = false ∨ s.agree.staging.held = true) :
    s.settling = .kept := by
  unfold State.settling
  rw [if_neg]
  rcases h with h | h <;> simp [h]

theorem settling_of_fault {s : State} (ha : s.agree.staging.active = true) (hh : s.agree.staging.held = false)
    {r : DiscardReason} (h : s.agree.staging.endFault s.profile.zoneCount = some r) : s.settling = .discarded r := by
  simp [State.settling, ha, hh, h]

theorem settling_of_fusing {s : State} (ha : s.agree.staging.active = true) (hh : s.agree.staging.held = false)
    (h : s.agree.staging.endFault s.profile.zoneCount = none) (hf : s.fusion.fusing.isSome = true) :
    s.settling = .held := by simp [State.settling, ha, hh, h, hf]

theorem settling_of_free {s : State} (ha : s.agree.staging.active = true) (hh : s.agree.staging.held = false)
    (h : s.agree.staging.endFault s.profile.zoneCount = none) (hf : s.fusion.fusing = none) :
    s.settling = .installed := by simp [State.settling, ha, hh, h, hf]

/-- The outcome decides what settling does. -/
theorem settleStaging_eq (s : State) : settleStaging s = clearDiscarded (match s.settling with
    | .kept => s
    | .discarded r => discardStaging r s
    | .held => { s with agree := { s.agree with staging := { s.agree.staging with held := true } } }
    | .installed => install s) := by
  by_cases hidle : s.agree.staging.active = false ∨ s.agree.staging.held = true
  · rw [settleStaging_of_idle hidle, settling_of_idle hidle]
  · simp only [not_or, Bool.not_eq_false, Bool.not_eq_true] at hidle
    obtain ⟨ha, hh⟩ := hidle
    cases h : s.agree.staging.endFault s.profile.zoneCount with
    | some r => rw [settleStaging_discards ha hh h, settling_of_fault ha hh h]
    | none =>
      cases hf : s.fusion.fusing with
      | some l =>
        have hsome : s.fusion.fusing.isSome = true := by simp [hf]
        rw [settleStaging_holds ha hh h hsome, settling_of_fusing ha hh h hsome]
        rfl
      | none => rw [settleStaging_installs ha hh h hf, settling_of_free ha hh h hf]

/-! ### What each outcome shows -/

/-- The record that settling leaves. -/
def Settling.record (o : Settling) (a : Agree) : Agree :=
  match o with
  | .kept => { a with staging := { a.staging with discarded := false } }
  | .discarded _ => { a with staging := Staging.empty }
  | .held => { a with staging := { a.staging with held := true, discarded := false } }
  | .installed => { a with
      history := storePair a.history a.staging.label a.staging.digest, installed := true, staging := Staging.empty }

/-- The entry that settling offers. -/
def Settling.entry (o : Settling) (expected : Nat) : Option (TraceKind × Detail) :=
  match o with
  | .kept | .held => none
  | .discarded r => some (.transferDiscarded, .discard r)
  | .installed => some (.transferInstalled, .count expected)

/-- The reports of settling `s`, made in a state `v`. -/
def State.settleReports (s : State) (o : Settling) (v : State) : State :=
  match o with
  | .installed => installReports s.profile s.agree.staging.label (s.agree.staging.table s.profile).slots v
  | _ => v

theorem settleReports_frame (s : State) (o : Settling) (v : State) : s.settleReports o v = { v with
    exc := (s.settleReports o v).exc
    counters := v.counters.withDisabled (s.settleReports o v).counters
    panel := { v.panel with events := (s.settleReports o v).panel.events } } := by
  cases o with
  | installed => exact installReports_frame s.profile s.agree.staging v
  | kept => rfl
  | discarded r => rfl
  | held => rfl

/-- ZONE_RAISED by the evaluation of settling `s`. -/
def State.settleRaises (s : State) (o : Settling) : Bool :=
  match o with
  | .installed => (evaluate { s with table := s.agree.staging.table s.profile }).panel.events.getLsbD 5
  | _ => false

/-- An entry that is offered, if any. -/
def offerEntry (e : Option (TraceKind × Detail)) (src : Station) (z : State) : State :=
  match e with
  | some (kind, d) => offer kind (some src) (some .transfer) d z
  | none => z

/-- The count of discarded transfers after settling. -/
def Settling.discardCount (o : Settling) (n : Word16) : Word16 :=
  match o with
  | .discarded _ => satInc n
  | _ => n

/-- The count of installed transfers after settling. -/
def Settling.installCount (o : Settling) (n : Word16) : Word16 :=
  match o with
  | .installed => satInc n
  | _ => n

/-- An entry depends on the trace and the place in the cycle, and raises what it raises over the events that stand. -/
theorem offer_seen {s u : State} {raised : Bool} (ht : s.trace = u.trace) (hl : s.time.localTick = u.time.localTick)
    (hc : s.line.cycle = u.line.cycle) (ho : s.line.opp = u.line.opp)
    (hp : s.panel = { u.panel with events := withEvent raised .zoneRaised u.panel.events })
    (k : TraceKind) (src : Option Station) (fr : Option FrameKind) (d : Detail) :
    (offer k src fr d s).trace = (offer k src fr d u).trace
      ∧ (offer k src fr d s).panel = { (offer k src fr d u).panel with
          events := withEvent raised .zoneRaised (offer k src fr d u).panel.events } := by
  simp only [offer_trace, offer_panel, State.entryFor, ht, hl, hc, ho, hp, withEvent_comm, and_self]

theorem ReportsAlike.refl (s : State) : ReportsAlike false s s := ⟨rfl, rfl, fun _ => rfl, rfl⟩

/-- What settling the staging of `h` shows, told from a state `v` that differs from `h` in its line and in the count of
frames taken. -/
theorem settleStaging_shows {h v : State} (halike : ReportsAlike false h v) (ht : h.trace = v.trace)
    (hl : h.time.localTick = v.time.localTick) (hc : h.line.cycle = v.line.cycle) (ho : h.line.opp = v.line.opp)
    (hp : h.panel = v.panel) {o : Settling} (hset : h.settling = o) {n : Word16}
    (hcount : h.counters = { v.counters with framesTaken := n }) :
    (settleStaging h).agree = o.record h.agree
      ∧ (settleStaging h).exc = (h.settleReports o v).exc
      ∧ (settleStaging h).counters = { (h.settleReports o v).counters with
          framesTaken := n
          transfersDiscarded := o.discardCount v.counters.transfersDiscarded
          transfersInstalled := o.installCount v.counters.transfersInstalled }
      ∧ (settleStaging h).trace = (offerEntry (o.entry h.agree.staging.expected) h.agree.staging.source
          (h.settleReports o v)).trace
      ∧ (settleStaging h).panel = { (offerEntry (o.entry h.agree.staging.expected) h.agree.staging.source
          (h.settleReports o v)).panel with
          events := withEvent (h.settleRaises o) .zoneRaised
            (offerEntry (o.entry h.agree.staging.expected) h.agree.staging.source
              (h.settleReports o v)).panel.events } := by
  rw [settleStaging_eq, hset]
  have hexc : h.exc = v.exc := halike.exc
  cases o with
  | kept => exact ⟨rfl, hexc, hcount, ht, hp⟩
  | held => exact ⟨rfl, hexc, hcount, ht, hp⟩
  | discarded r =>
    obtain ⟨htrace, hpanel⟩ := offer_seen (raised := false) ht hl hc ho hp .transferDiscarded
      (some h.agree.staging.source) (some .transfer) (.discard r)
    have hcounters : (discardStaging r h).counters
        = { h.counters with transfersDiscarded := satInc h.counters.transfersDiscarded } := rfl
    exact ⟨rfl, hexc, hcounters.trans (by rw [hcount]; rfl), htrace, hpanel⟩
  | installed =>
    generalize hw : installReports h.profile h.agree.staging.label (h.agree.staging.table h.profile).slots h = w
    obtain ⟨hiexc, hicounters, hitrace, hipanel⟩ :=
      install_effects (b := false) (raised := h.installRaises) (.refl h) rfl rfl rfl hw.symm rfl
    have hz : ReportsAlike false w (h.settleReports .installed v) :=
      hw ▸ halike.installReports h.profile h.agree.staging
    have hwframe := installReports_frame h.profile h.agree.staging h
    rw [hw] at hwframe
    have hzframe := settleReports_frame h .installed v
    have hzpending : (h.settleReports .installed v).panel.events.getLsbD 5 = v.panel.events.getLsbD 5 :=
      installReports_zoneRaised h.profile h.agree.staging v
    generalize h.settleReports .installed v = z at hz hzframe hzpending ⊢
    have hseen := offer_seen (s := w) (u := z) (raised := false) (by rw [hwframe, hzframe]; exact ht)
      (by rw [hwframe, hzframe]; exact hl) (by rw [hwframe, hzframe]; exact hc) (by rw [hwframe, hzframe]; exact ho)
      (by rw [hwframe, hzframe, hz.events, hp]) .transferInstalled (some h.agree.staging.source) (some .transfer)
      (.count h.agree.staging.expected)
    obtain ⟨htrace, hpanel⟩ := hseen
    refine ⟨(install_table_agree_fusion h).2.1, hiexc.trans hz.exc, hicounters.trans ?counters, hitrace.trans htrace,
      hipanel.trans ?panel⟩
    case counters =>
      have hzcounters : z.counters = v.counters.withDisabled z.counters := (congrArg State.counters hzframe :)
      rw [hz.disabled, hcount, hzcounters]
      rfl
    case panel =>
      have hraises : h.settleRaises .installed = (h.installRaises || v.panel.events.getLsbD 5) := by
        rw [← hp]
        exact evaluate_zoneRaised { h with table := h.agree.staging.table h.profile }
      have hpending : v.panel.events.getLsbD 5 = true → (offer .transferInstalled (some h.agree.staging.source)
          (some .transfer) (.count h.agree.staging.expected) z).panel.events.getLsbD 5 = true := fun hv => by
        rw [offer_events_getLsbD _ _ _ _ _ (by decide), hzpending, hv]
      have hrest : (offer .transferInstalled (some h.agree.staging.source) (some .transfer)
          (.count h.agree.staging.expected) z).panel = { h.panel with events := (offer .transferInstalled
            (some h.agree.staging.source) (some .transfer) (.count h.agree.staging.expected) z).panel.events } := by
        rw [hp, offer_panel, hzframe]
      have hentry : offerEntry (Settling.installed.entry h.agree.staging.expected) h.agree.staging.source z
          = offer .transferInstalled (some h.agree.staging.source) (some .transfer)
            (.count h.agree.staging.expected) z := rfl
      rw [hpanel, hentry, hraises, withEvent_zoneRaised_or hpending, hrest]
      rfl

end Sys2Proof.Machine
end

section
/-! PROOFS. What a frame's delivery shows after the opportunity counter moved (R107), up to a pending ZONE_RAISED. -/

namespace Sys2Proof.Machine

/-! ### An event raised before a frame is staged -/

theorem offer_raiseIf (r : Bool) (k : TraceKind) (src : Option Station) (fr : Option FrameKind) (d : Detail) (x : State) :
    offer k src fr d (raiseIf r .zoneRaised x) = raiseIf r .zoneRaised (offer k src fr d x) :=
  congrArg (fun set : Word16 => { offer k src fr d x with panel.events := set })
    (withEvent_comm _ r .traceFrozen .zoneRaised x.panel.events)

theorem discardStaging_raiseIf (r : Bool) (d : DiscardReason) (x : State) :
    discardStaging d (raiseIf r .zoneRaised x) = raiseIf r .zoneRaised (discardStaging d x) :=
  offer_raiseIf r .transferDiscarded (some x.agree.staging.source) (some .transfer) (.discard d) { x with
    agree := { x.agree with staging := Staging.cleared true }
    counters := { x.counters with transfersDiscarded := satInc x.counters.transfersDiscarded } }

theorem addToStaging_raiseIf (r : Bool) (src : Station) (f : TransferBody) (x : State) :
    addToStaging src f (raiseIf r .zoneRaised x) = raiseIf r .zoneRaised (addToStaging src f x) := by
  unfold addToStaging
  cases h : x.agree.staging.fault src f with
  | none =>
    have h' : (raiseIf r .zoneRaised x).agree.staging.fault src f = none := h
    rw [h']
    rfl
  | some d =>
    have h' : (raiseIf r .zoneRaised x).agree.staging.fault src f = some d := h
    rw [h']
    exact discardStaging_raiseIf r d x

theorem takeTransfer_raiseIf (r : Bool) (src : Station) (f : TransferBody) (x : State) :
    takeTransfer src f (raiseIf r .zoneRaised x) = raiseIf r .zoneRaised (takeTransfer src f x) := by
  have hign : (raiseIf r .zoneRaised x).ignores src f = x.ignores src f := rfl
  have hact : (raiseIf r .zoneRaised x).agree.staging.active = x.agree.staging.active := rfl
  unfold takeTransfer
  rw [hign, hact]
  split_ifs
  · rfl
  · exact addToStaging_raiseIf r src f x
  · exact addToStaging_raiseIf r src f { x with agree := { x.agree with staging := Staging.opened src f } }

theorem staged_raiseIf (r : Bool) (src : Station) (b : Body) (x : State) :
    (raiseIf r .zoneRaised x).staged src b = raiseIf r .zoneRaised (x.staged src b) := by
  cases b with
  | mark m => rfl
  | presence p => rfl
  | sighting g => rfl
  | transfer f =>
    show (if x.mode = .resync then raiseIf r .zoneRaised x else takeTransfer src f (raiseIf r .zoneRaised x))
      = raiseIf r .zoneRaised (if x.mode = .resync then x else takeTransfer src f x)
    rw [takeTransfer_raiseIf]
    split_ifs <;> rfl

/-! ### A delivery, told from a state of the same reach -/

theorem SameReach.staged {s u : State} (h : SameReach s u) (hm : s.mode = u.mode) (src : Station) (b : Body) :
    SameReach (s.staged src b) (u.staged src b) := by
  cases b with
  | mark m => exact h
  | presence p => exact h
  | sighting g => exact h
  | transfer f =>
    unfold State.staged
    rw [hm]
    dsimp only
    split_ifs
    · exact h
    · exact h.takeTransfer src f

/-- The cycle number that a PRESENCE sets plays no part in what the Agreement Unit makes of the frame. -/
theorem staged_resyncCycle (src : Station) (b : Body) (s : State) :
    ((resyncCycle b s).staged src b).agree = (s.staged src b).agree
      ∧ ((resyncCycle b s).staged src b).trace = (s.staged src b).trace
      ∧ ((resyncCycle b s).staged src b).panel = (s.staged src b).panel
      ∧ ((resyncCycle b s).staged src b).counters = (s.staged src b).counters := by
  by_cases hp : b.kind = .presence
  · obtain ⟨p, rfl⟩ := Body.presence_of_kind hp
    exact ⟨rfl, rfl, rfl, rfl⟩
  · rw [resyncCycle_of_other hp]
    exact ⟨rfl, rfl, rfl, rfl⟩

/-- What a delivery shows, told from a state of the same reach. -/
theorem delivery_shows {s u : State} (h : SameReach s u) (hm : s.mode = u.mode) (src : Station) (b : Body) :
    (deliver src b (resyncCycle b s)).agree = (u.staged src b).agree
      ∧ (deliver src b (resyncCycle b s)).trace = (u.staged src b).trace
      ∧ (deliver src b (resyncCycle b s)).panel = (u.staged src b).panel
      ∧ (deliver src b (resyncCycle b s)).counters = { (u.staged src b).counters with
          sightingsRefused := (deliver src b (resyncCycle b s)).counters.sightingsRefused } := by
  obtain ⟨hagree, htrace, hpanel, hcounters⟩ := deliver_staged src b (resyncCycle b s)
  obtain ⟨hagree', htrace', hpanel', hcounters'⟩ := staged_resyncCycle src b s
  have hreach := h.staged hm src b
  exact ⟨(hagree.trans hagree').trans hreach.agree, (htrace.trans htrace').trans hreach.trace,
    (hpanel.trans hpanel').trans hreach.panel, hcounters.trans (by rw [hcounters', hreach.counters])⟩

/-! ### A frame without FINAL -/

/-- A frame that does not end its opportunity, the cycle not having ended. -/
theorem finish_frameOver_restart {s : State} (h : s.line.opp ≠ .ended) : finish (frameOver false s) = { s with
    line := { s.line with silence := s.line.opp.isNumber, oppFrames := s.line.opp.isNumber, openFresh := false } } :=
  finish_of_not_ready (lullReady_of_opp h)

theorem disagrees_of_other {s : State} {src : Station} (h0 : s.line.opp ≠ .none) (h : s.line.opp ≠ .number src.val) :
    s.disagrees src = true := by
  unfold State.disagrees
  cases ho : s.line.opp with
  | none => exact absurd ho h0
  | ended => rfl
  | number k => exact bne_iff_ne.2 fun hk => h (ho.trans (by rw [hk]))

theorem alignTo_of_none {s : State} {src : Station} (h : s.line.opp = .none) (k : FrameKind) : alignTo src k s = s := by
  simp [alignTo, State.disagrees, h]

/-- What bringing a frame into its opportunity leaves, whether or not the counter moves (R107). -/
theorem alignTo_keeps (src : Station) (k : FrameKind) (s : State) : (alignTo src k s).mode = s.mode
    ∧ (alignTo src k s).roster = s.roster ∧ (alignTo src k s).line.cycle = s.line.cycle
    ∧ (alignTo src k s).profileDigest = s.profileDigest
    ∧ (alignTo src k s).fusion.openLabel = s.fusion.openLabel
    ∧ (alignTo src k s).counters.sightingsRefused = s.counters.sightingsRefused
    ∧ (alignTo src k s).panel = { s.panel with events := (alignTo src k s).panel.events } := by
  unfold alignTo
  split
  · have hset := Settled.settleStaging s
    refine ⟨by simp [moveCounter], by simp [moveCounter], by simp [moveCounter], ?_, hset.openLabel, ?_, ?_⟩
    · simp [moveCounter, State.profileDigest]
    · show (settleStaging s).counters.sightingsRefused = _
      rw [hset.counters]
      rfl
    · have hpanel : (moveCounter src k s).panel = { (settleStaging s).panel with
          events := (moveCounter src k s).panel.events } := rfl
      rw [hpanel, hset.panel]
  · exact ⟨rfl, rfl, rfl, rfl, rfl, rfl, rfl⟩

end Sys2Proof.Machine
end

section
/-! PROOFS. A frame of another opportunity moves the counter (O39). -/

namespace Sys2Proof.Machine

/-! ### Settling after a frame is heard -/

theorem frameHeard_settling (s : State) (src : Station) (b : Body) : (s.frameHeard src b).settling = s.settling := by
  rw [frameHeard_eq]
  rfl

theorem frameHeard_agree (s : State) (src : Station) (b : Body) : (s.frameHeard src b).agree = s.agree := by
  rw [frameHeard_eq]

theorem frameHeard_profile (s : State) (src : Station) (b : Body) : (s.frameHeard src b).profile = s.profile := by
  rw [frameHeard_eq]
  rfl

theorem frameHeard_alike (s : State) (src : Station) (b : Body) :
    ReportsAlike false (s.frameHeard src b) (offer .frameIn (some src) (some b.kind) b.detail s) := by
  rw [frameHeard_eq]
  exact ⟨rfl, rfl, fun _ => rfl, rfl⟩

theorem frameHeard_settleReports (s : State) (src : Station) (b : Body) (o : Settling) (v : State) :
    (s.frameHeard src b).settleReports o v = s.settleReports o v := by
  cases o with
  | installed => rw [State.settleReports, frameHeard_agree, frameHeard_profile]; rfl
  | kept => rfl
  | discarded r => rfl
  | held => rfl

theorem frameHeard_settleRaises (s : State) (src : Station) (b : Body) (o : Settling) :
    (s.frameHeard src b).settleRaises o = s.settleRaises o := by
  cases o with
  | kept => rfl
  | discarded r => rfl
  | held => rfl
  | installed =>
    rw [State.settleRaises, State.settleRaises, evaluate_zoneRaised, evaluate_zoneRaised, frameHeard_agree,
      frameHeard_profile]
    have hbit : (s.frameHeard src b).panel.events.getLsbD 5 = s.panel.events.getLsbD 5 := by
      rw [(frameHeard_reports s src b).2.1, offer_events_getLsbD _ _ _ _ _ (by decide)]
    rw [hbit, frameHeard_eq]
    rfl

/-- What settling leaves of the table, the Sighting Queue and the zones. -/
theorem settleStaging_rest (s : State) : (s.settling ≠ .installed → (settleStaging s).table = s.table
      ∧ (settleStaging s).warn = s.warn ∧ (settleStaging s).fusion = s.fusion)
    ∧ (s.settling = .installed → (settleStaging s).table = s.agree.staging.table s.profile
      ∧ (settleStaging s).warn = (evaluate { s with table := s.agree.staging.table s.profile }).warn
      ∧ (settleStaging s).fusion = { s.fusion with fusing := none, waiting := none, stopping := false }) := by
  refine ⟨fun h => ?_, fun h => ?_⟩
  · rw [settleStaging_eq]
    cases ho : s.settling with
    | installed => exact absurd ho h
    | kept => exact ⟨rfl, rfl, rfl⟩
    | held => exact ⟨rfl, rfl, rfl⟩
    | discarded r => exact ⟨rfl, rfl, rfl⟩
  · rw [settleStaging_eq, h]
    exact ⟨install_table s, install_evaluated s, install_fusion s⟩

/-! ### The counter moved -/

/-- The state in which SLOT_DISAGREE is offered, after the staging's entry. -/
def State.settledSeen (s : State) (v : State) : State :=
  offerEntry (s.settling.entry s.agree.staging.expected) s.agree.staging.source (s.settleReports s.settling v)

theorem offerEntry_frame (e : Option (TraceKind × Detail)) (src : Station) (z : State) : offerEntry e src z = { z with
    trace := (offerEntry e src z).trace
    panel := { z.panel with events := (offerEntry e src z).panel.events } } := by
  cases e <;> rfl

/-- The counters as the counter moves (R107, R144). -/
def State.movedCounters (s : State) (z : State) : Counters := { z.counters with
  framesTaken := satInc s.counters.framesTaken
  slotDisagreements := satInc s.counters.slotDisagreements
  transfersDiscarded := s.settling.discardCount s.counters.transfersDiscarded
  transfersInstalled := s.settling.installCount s.counters.transfersInstalled }

/-- The state that the moved counter shows, but for a pending ZONE_RAISED. -/
def State.movedSeen (s : State) (src : Station) (k : FrameKind) (v : State) : State :=
  offer .slotDisagree (some src) (some k) (.opp s.line.opp) { s.settledSeen v with
    line := { s.line with opp := .number src.val }, agree := s.settling.record s.agree
    counters := s.movedCounters (s.settleReports s.settling v) }

theorem settledSeen_frame (s v : State) : s.settledSeen v = { v with
    exc := (s.settledSeen v).exc, trace := (s.settledSeen v).trace, counters := (s.settledSeen v).counters
    panel := { v.panel with events := (s.settledSeen v).panel.events } } := by
  unfold State.settledSeen
  rw [offerEntry_frame, settleReports_frame]

/-- What settling the staging shows once a frame is heard. -/
theorem frameHeard_settles (s : State) (src : Station) (b : Body) {v : State}
    (hv : v = offer .frameIn (some src) (some b.kind) b.detail s) :
    (settleStaging (s.frameHeard src b)).agree = s.settling.record s.agree
      ∧ (settleStaging (s.frameHeard src b)).exc = (s.settleReports s.settling v).exc
      ∧ (settleStaging (s.frameHeard src b)).counters = { (s.settleReports s.settling v).counters with
          framesTaken := satInc s.counters.framesTaken
          transfersDiscarded := s.settling.discardCount s.counters.transfersDiscarded
          transfersInstalled := s.settling.installCount s.counters.transfersInstalled }
      ∧ (settleStaging (s.frameHeard src b)).trace = (s.settledSeen v).trace
      ∧ (settleStaging (s.frameHeard src b)).panel = { (s.settledSeen v).panel with
          events := withEvent (s.settleRaises s.settling) .zoneRaised (s.settledSeen v).panel.events } := by
  have hline := frameHeard_line s src b
  obtain ⟨htrace, hpanel, hcounters⟩ := frameHeard_reports s src b
  rw [← hv] at htrace hpanel
  have halike := frameHeard_alike s src b
  rw [← hv] at halike
  have hvline : v.line = s.line := by rw [hv]; rfl
  have hvtime : v.time = s.time := by rw [hv]; rfl
  have hvcounters : v.counters = s.counters := by rw [hv]; rfl
  have hshows := settleStaging_shows halike htrace (by rw [hvtime, frameHeard_eq]) (by rw [hline, hvline])
    (by rw [hline, hvline]) hpanel rfl (n := satInc s.counters.framesTaken) (by rw [hcounters, hvcounters])
  rw [frameHeard_settling, frameHeard_agree, frameHeard_settleReports, frameHeard_settleRaises, hvcounters] at hshows
  exact hshows

/-- The moved counter shows no more than `movedSeen`. -/
theorem moveCounter_reach (s : State) (src : Station) (b : Body) {v : State}
    (hv : v = offer .frameIn (some src) (some b.kind) b.detail s) :
    SameReach (moveCounter src b.kind (s.frameHeard src b))
      (raiseIf (s.settleRaises s.settling) .zoneRaised (s.movedSeen src b.kind v)) := by
  have hline := frameHeard_line s src b
  have hvcounters : v.counters = s.counters := by rw [hv]; rfl
  obtain ⟨hagree, -, hcounters', htrace', hpanel'⟩ := frameHeard_settles s src b hv
  have hsline : (settleStaging (s.frameHeard src b)).line = (s.frameHeard src b).line := by simp
  have hopp : (s.frameHeard src b).line.opp = s.line.opp := by rw [hline]
  have hcycle : (settleStaging (s.frameHeard src b)).line.cycle = s.line.cycle := by rw [hsline, hline]
  have htime : (settleStaging (s.frameHeard src b)).time = (s.settledSeen v).time := by
    rw [settledSeen_frame]
    simp [hv, frameHeard_eq]
  have hframe := settleReports_frame s s.settling v
  have hzcounters : (s.settleReports s.settling v).counters
      = s.counters.withDisabled (s.settleReports s.settling v).counters := by
    rw [← hvcounters]
    exact (congrArg State.counters hframe :)
  have hdisagreements : (settleStaging (s.frameHeard src b)).counters.slotDisagreements
      = s.counters.slotDisagreements := by
    rw [hcounters', hzcounters]
    rfl
  unfold moveCounter State.movedSeen
  dsimp only
  rw [← offer_raiseIf, hopp]
  apply SameReach.offer
  refine ⟨hagree, htrace', ?_, hpanel', congrArg Timebase.localTick htime, hcycle, rfl⟩
  refine (congrArg (fun n : Word16 => { (settleStaging (s.frameHeard src b)).counters with slotDisagreements := n })
    (congrArg satInc hdisagreements)).trans ?_
  rw [hcounters']
  rfl

end Sys2Proof.Machine
end

section
/-! PROOFS. A frame of another opportunity is taken where the counter moved to (O39). -/

namespace Sys2Proof.Machine

/-- What bringing a heard frame into its opportunity leaves of the state that received it. -/
theorem alignTo_heard (s : State) (src : Station) (b : Body) : let n := alignTo src b.kind (s.frameHeard src b)
    n.mode = s.mode ∧ n.roster = s.roster ∧ n.line.cycle = s.line.cycle ∧ n.profileDigest = s.profileDigest
      ∧ n.fusion.openLabel = s.fusion.openLabel ∧ n.counters.sightingsRefused = s.counters.sightingsRefused
      ∧ n.panel = { s.panel with events := n.panel.events } := by
  obtain ⟨hmode, hroster, hcyc, hdigest, hlabel, hrefused, hpanel⟩ := alignTo_keeps src b.kind (s.frameHeard src b)
  refine ⟨hmode.trans ?_, hroster.trans ?_, hcyc.trans ?_, hdigest.trans ?_, hlabel.trans ?_, hrefused.trans ?_,
    hpanel.trans ?_⟩
  all_goals rw [frameHeard_eq]
  · rfl
  · rfl

/-- Bringing a heard frame into its opportunity leaves the rest of the state alone (R107). -/
theorem alignTo_frame (s : State) (src : Station) (b : Body) : let n := alignTo src b.kind (s.frameHeard src b)
    n = { s with
      table := n.table, fusion := n.fusion, exc := n.exc, line := n.line, agree := n.agree, warn := n.warn
      trace := n.trace, counters := n.counters, panel := n.panel } := by
  unfold alignTo
  split
  · apply State.ext_fields <;> simp [moveCounter, frameHeard_eq]
  · apply State.ext_fields <;> simp [frameHeard_eq]

/-- The state `t` that a frame without FINAL leaves once it is brought into its opportunity, in `n` (R92, R97). -/
structure DeliveredTo (s : State) (src : Station) (b : Body) (n t : State) : Prop where
  line : t.line = { n.line with
    cycle := s.cycleAfter b, silence := n.line.opp.isNumber, oppFrames := n.line.opp.isNumber, openFresh := false }
  table : t.table = n.table
  warn : t.warn = n.warn
  exc : t.exc = n.exc
  fusion : t.fusion = { n.fusion with openLabel := t.fusion.openLabel }
  delivered : (t.roster, t.fusion.openLabel, t.agree, t.trace, t.counters, t.panel)
    = ((deliver src b (resyncCycle b n)).roster, (deliver src b (resyncCycle b n)).fusion.openLabel,
      (deliver src b (resyncCycle b n)).agree, (deliver src b (resyncCycle b n)).trace,
      (deliver src b (resyncCycle b n)).counters, (deliver src b (resyncCycle b n)).panel)
  mode : t.mode = s.mode
  frame : t = { s with
    table := t.table, fusion := t.fusion, exc := t.exc, line := t.line, roster := t.roster, agree := t.agree
    warn := t.warn, trace := t.trace, counters := t.counters, panel := t.panel }

theorem deliveredTo_of_cycle {s : State} {src : Station} {b : Body} (hcycle : s.InCycle)
    (hopp : (alignTo src b.kind (s.frameHeard src b)).line.opp ≠ .ended) :
    DeliveredTo s src b (alignTo src b.kind (s.frameHeard src b)) (finish (takeFrame src false b s)) := by
  obtain ⟨hmode, -, hcyc, -⟩ := alignTo_heard s src b
  have hframe := alignTo_frame s src b
  rw [takeFrame_of_cycle hcycle, takeInCycle, finish_frameOver_restart (by rw [deliver_line]; exact hopp), deliver_line]
  generalize alignTo src b.kind (s.frameHeard src b) = n at *
  have hline : (resyncCycle b n).line = { n.line with cycle := s.cycleAfter b } := by
    unfold resyncCycle
    rw [hmode, hcyc]
    rfl
  rw [hline]
  refine ⟨rfl, deliver_table _ _ _, deliver_warn _ _ _, deliver_exc _ _ _,
    (deliver_counters src b (resyncCycle b n)).2.1, rfl, (deliver_mode _ _ _).trans hmode, ?_⟩
  apply State.ext_fields
  case panel => rfl
  all_goals simp
  all_goals rw [hframe]

theorem State.staged_eq {x : State} {m : Mode} (hm : x.mode = m) (src : Station) (b : Body) :
    x.staged src b = match b with
      | .transfer f => if m = .resync then x else takeTransfer src f x
      | _ => x := by
  subst hm
  cases b <;> rfl

theorem movedSeen_mode (s : State) (src : Station) (k : FrameKind) (v : State) : (s.movedSeen src k v).mode = v.mode :=
  (congrArg State.mode (settledSeen_frame s v) :)

/-- What the moved counter leaves besides what it shows. -/
theorem moveCounter_rest (s : State) (src : Station) (b : Body) : let n := moveCounter src b.kind (s.frameHeard src b)
    n.line = { s.line with
        rx := .idle, plan := none, opp := .number src.val, openTimer := .stopped, oppFrames := false }
      ∧ n.exc = (settleStaging (s.frameHeard src b)).exc
      ∧ (s.settling ≠ .installed → n.table = s.table ∧ n.warn = s.warn ∧ n.fusion = s.fusion)
      ∧ (s.settling = .installed → n.table = s.agree.staging.table s.profile
        ∧ n.warn = (evaluate { s with table := s.agree.staging.table s.profile }).warn
        ∧ n.fusion = { s.fusion with fusing := none, waiting := none, stopping := false }) := by
  have hline : (settleStaging (s.frameHeard src b)).line
      = { s.line with rx := .idle, plan := none, openTimer := s.timerAfterFrame } := by
    rw [settleStaging_line, frameHeard_line]
  have htable : (s.frameHeard src b).table = s.table := by rw [frameHeard_eq]
  have hwarn : (s.frameHeard src b).warn = s.warn := by rw [frameHeard_eq]
  have hfusion : (s.frameHeard src b).fusion = s.fusion := by rw [frameHeard_eq]
  have hstaged : (s.frameHeard src b).agree.staging.table (s.frameHeard src b).profile
      = s.agree.staging.table s.profile := by rw [frameHeard_agree, frameHeard_profile]
  obtain ⟨hkept, hinstalled⟩ := settleStaging_rest (s.frameHeard src b)
  rw [frameHeard_settling] at hkept hinstalled
  rw [htable, hwarn, hfusion] at hkept
  refine ⟨?line, rfl, hkept, fun h => ?installed⟩
  case line =>
    show { (settleStaging (s.frameHeard src b)).line with
      opp := .number src.val, openTimer := .stopped, oppFrames := false } = _
    rw [hline]
  case installed =>
    obtain ⟨hitable, hiwarn, hifusion⟩ := hinstalled h
    refine ⟨hitable.trans hstaged, hiwarn.trans ?_, hifusion.trans (by rw [hfusion])⟩
    exact evaluate_warn_congr (by rw [frameHeard_eq]) hstaged (by rw [frameHeard_eq]) (by rw [frameHeard_eq])
      (by rw [frameHeard_eq]) hwarn

/-- The state that a heard frame shows before the first opportunity: offered and counted (R90). -/
def State.heardSeen (s : State) (src : Station) (b : Body) : State :=
  { offer .frameIn (some src) (some b.kind) b.detail s with
    counters.framesTaken := satInc s.counters.framesTaken }

/-- Settles O39: the frame is taken as in its own opportunity; the move settles the staging first. -/
theorem slotDisagreementMovesTheCounter : Obligations.SlotDisagreementMovesTheCounter := by
  intro s c frame src b h0 htx hrx hj hc hcycle hother
  have hcmd : FrameCommand c frame b := hc
  have hcycle : s.InCycle := hcycle
  have hexec := exec_of_frameCommand (receives_of h0 hcycle.awake htx hrx) hj hcmd
  obtain ⟨hmode, hroster, hcyc, hdigest, hlabel, hrefused, -⟩ := alignTo_heard s src b
  have hhline := frameHeard_line s src b
  have hnum : s.line.opp ≠ .none → alignTo src b.kind (s.frameHeard src b) = moveCounter src b.kind (s.frameHeard src b) :=
    fun h => if_pos (disagrees_of_other (by rw [hhline]; exact h) (by rw [hhline]; exact hother))
  have hnone : s.line.opp = .none → alignTo src b.kind (s.frameHeard src b) = s.frameHeard src b := fun h =>
    alignTo_of_none (by rw [hhline]; exact h) _
  have hopp : (alignTo src b.kind (s.frameHeard src b)).line.opp ≠ .ended := by
    by_cases h : s.line.opp = .none
    · rw [hnone h, hhline]
      exact fun h' => Opp.noConfusion (h.symm.trans h')
    · rw [hnum h]
      exact Opp.noConfusion
  have hdelivered := deliveredTo_of_cycle hcycle hopp
  generalize finish (takeFrame src false b s) = t at hexec hdelivered
  have hmoved := moveCounter_reach s src b rfl
  have hsettled := frameHeard_settles s src b rfl
  generalize hn : alignTo src b.kind (s.frameHeard src b) = n at *
  obtain ⟨hpresence, hheard⟩ := deliver_rosters src hcmd.not_mark (resyncCycle b n)
  obtain ⟨hclosed, hopen⟩ := deliver_sightings src b (resyncCycle b n)
  have hncycle : (resyncCycle b n).line.cycle = s.cycleAfter b := by
    rw [resyncCycle_line]
    unfold State.cycleAfter
    rw [hmode, hcyc]
  have hmroster : (resyncCycle b n).roster = s.roster := hroster
  have hmdigest : (resyncCycle b n).profileDigest = s.profileDigest := hdigest
  have hmmode : (resyncCycle b n).mode = s.mode := hmode
  have hmlabel : (resyncCycle b n).fusion.openLabel = s.fusion.openLabel := hlabel
  have hmrefused : (resyncCycle b n).counters.sightingsRefused = s.counters.sightingsRefused := hrefused
  rw [hmroster] at hpresence hheard
  rw [hmdigest, hncycle] at hpresence
  rw [hmmode, hmlabel, hmrefused] at hclosed hopen
  obtain ⟨htline, httable, htwarn, htexc, htfusion, hshown, htmode, htframe⟩ := hdelivered
  simp only [Prod.mk.injEq] at hshown
  obtain ⟨htroster, htlabel, htagree, httrace, htcounters, htpanel⟩ := hshown
  have htcycle : t.line.cycle = s.cycleAfter b := by rw [htline]
  refine ⟨t, _, hexec, htmode, rfl, htcycle.trans (cycleAfter_eq s b), ?_, ?_, ?_, ?_, fun h => ?moved,
    fun h => ?still, htframe⟩
  · rw [htroster, htcycle]
    exact hpresence
  · rw [htroster]
    exact hheard
  · rw [htlabel, htcounters]
    exact hclosed
  · rw [htlabel, htcounters]
    exact hopen
  case moved =>
    have hrest := moveCounter_rest s src b
    rw [← hnum h] at hmoved hrest
    obtain ⟨hline, hexc, hkept, hinstalled⟩ := hrest
    obtain ⟨hagree, htrace, hpanel', hcounted⟩ := delivery_shows hmoved (hmode.trans
      (movedSeen_mode s src b.kind (offer .frameIn (some src) (some b.kind) b.detail s)).symm) src b
    rw [staged_raiseIf] at hagree htrace hpanel' hcounted
    rw [← htagree] at hagree
    rw [← httrace] at htrace
    rw [← htcounters] at hcounted
    rw [← htpanel] at hpanel'
    refine ⟨s.settling.record s.agree, s.settling.entry s.agree.staging.expected,
      s.movedCounters (s.settleReports s.settling (offer .frameIn (some src) (some b.kind) b.detail s)),
      s.settleRaises s.settling, s.settleReports s.settling (offer .frameIn (some src) (some b.kind) b.detail s), _, _,
      _, ?line, rfl, fun hidle => ?idle, fun ha hh => ⟨fun hfault => ?discards, fun h1 h2 h3 =>
        ⟨fun hf => ?holds, fun hf => ?installs⟩⟩, fun he => ?keeps, ?discardCount, ?installCount, rfl, rfl,
      State.staged_eq ?smode src b, hagree, htrace, ?exc, hcounted, hpanel'⟩
    case line =>
      rw [htcycle, htline, hline]
      rfl
    case smode => exact movedSeen_mode s src b.kind _
    case exc => exact (htexc.trans hexc).trans hsettled.2.1
    case idle =>
      rw [settling_of_idle hidle]
      exact ⟨rfl, rfl, rfl⟩
    case discards =>
      rw [settling_of_fault ha hh (endFault_of_fault hfault)]
      exact ⟨rfl, rfl, rfl⟩
    case holds =>
      rw [settling_of_fusing ha hh (endFault_of_complete h1 h2 h3) hf]
      exact ⟨rfl, rfl, rfl⟩
    case installs =>
      have hset := settling_of_free ha hh (endFault_of_complete h1 h2 h3) hf
      obtain ⟨htable, hwarn, hnfusion⟩ := hinstalled hset
      rw [hset, httable, htable, htwarn, hwarn]
      refine ⟨rfl, rfl, rfl, htfusion.trans (by rw [hnfusion]), rfl, rfl, rfl⟩
    case keeps =>
      have hset : s.settling ≠ .installed := fun hset => he _ (by rw [hset]; rfl)
      obtain ⟨htable, hwarn, hnfusion⟩ := hkept hset
      rw [httable, htable, htwarn, hwarn]
      refine ⟨rfl, rfl, ?_, htfusion.trans (by rw [hnfusion])⟩
      cases hs : s.settling with
      | installed => exact absurd hs hset
      | kept => rfl
      | held => rfl
      | discarded r => rfl
    case discardCount => cases hs : s.settling <;> simp [State.movedCounters, hs, Settling.discardCount, Settling.entry]
    case installCount => cases hs : s.settling <;> simp [State.movedCounters, hs, Settling.installCount, Settling.entry]
  case still =>
    have hheardAt := hnone h
    have hreach : SameReach n (s.heardSeen src b) := by
      rw [hheardAt, frameHeard_eq]
      exact ⟨rfl, rfl, rfl, rfl, rfl, rfl, rfl⟩
    obtain ⟨hagree, htrace, hpanel', hcounted⟩ := delivery_shows hreach hmode src b
    have hline : n.line = { s.line with rx := .idle, plan := none, openTimer := s.timerAfterFrame } := by
      rw [hheardAt, hhline]
    have hnfusion : n.fusion = s.fusion := by rw [hheardAt, frameHeard_eq]
    have hy := State.staged_eq (x := s.heardSeen src b) (m := s.mode) rfl src b
    refine ⟨(s.heardSeen src b).staged src b, ?_, hy, ?_, htfusion.trans (by rw [hnfusion]), ?_, ?_⟩
    · rw [htcycle, htline, hline, ← timerAfterFrame_of_cycle hcycle.not_listening]
      simp [h, Opp.isNumber]
    · rw [htagree, httrace, htpanel, hagree, htrace, hpanel']
    · rw [htcounters]
      exact hcounted
    · rw [httable, htwarn, htexc, hheardAt, frameHeard_eq]

end Sys2Proof.Machine
end
